-- ==== Sys2Proof/Word.lean ====
section
/-! DEFINITION. The two word types of the block: the byte (R51) and the 14-bit step input word (R88). -/

namespace Sys2Proof

/-- R51: a byte is 8 bits. -/
abbrev Byte := BitVec 8

/-- R88: a step input word is 14 bits: six strobes in bits 13:8 and one data byte in bits 7:0. -/
abbrev StepWord := BitVec 14

end Sys2Proof
end

