-- ==== Sys2Proof/Config.lean ====
section
/-! DEFINITION. What one instance of the block fixes (R5): the constants `START`, `END`, `HDR`, the open parameters
`L`, `LAYOUT`, `Z`, `T`, `HOST_ORDER`, and the free values that stand for what the spec calls unspecified (R35). -/

namespace Sys2Proof

/-- R5, R81: the start marker `START`. -/
def Config.startMarker : Byte := 0xAA#8

/-- R5, R81: the end marker `END` (it ends the header, not the frame: R61). -/
def Config.endMarker : Byte := 0x55#8

/-- R5: the header length `HDR` in bytes. -/
def Config.headerLen : Nat := 4

/-- R52: the order of the bytes inside a multi-byte field. -/
inductive ByteOrder where
  | little
  | big
deriving DecidableEq, Repr, Inhabited

/-- R87: the kind of a field. -/
inductive Kind where
  | uint
  | sint
  | float
deriving DecidableEq, Repr, Inhabited

/-- R5: one field of `LAYOUT`: a name, a byte offset inside the payload, a width in bytes and a kind. -/
structure LayoutField where
  name : String
  off  : Nat
  w    : Nat
  kind : Kind
deriving DecidableEq, Repr

/-- The payload offset `o` lies inside the field `f`. -/
abbrev LayoutField.Covers (f : LayoutField) (o : Nat) : Prop := f.off ≤ o ∧ o < f.off + f.w

/-- The fields `f` and `g` do not overlap (R5). -/
abbrev LayoutField.Apart (f g : LayoutField) : Prop := f.off + f.w ≤ g.off ∨ g.off + g.w ≤ f.off

/-- R5: the open parameters of one instance. `Z` and `T` act only through `layout` and `L`; the block never reads them
(93_implementation_defined.md U3). -/
structure Params where
  L         : Nat
  layout    : List LayoutField
  hostOrder : ByteOrder
  Z         : Nat
  T         : Nat
deriving DecidableEq, Repr

/-- R5: the fields lie inside `[0, L)` and do not overlap. DESIGN CHOICE (log entry 15): R5 gives a width no lower bound,
and a field of width 0, which has no bytes, is admitted. -/
abbrev LayoutOk (L : Nat) (layout : List LayoutField) : Prop :=
  (∀ f ∈ layout, f.off + f.w ≤ L) ∧ layout.Pairwise LayoutField.Apart

/-- R5: the parameters the spec admits: `L >= 1` and a layout that fits it. -/
abbrev Params.WF (p : Params) : Prop := 1 ≤ p.L ∧ LayoutOk p.L p.layout

/-- R12, R55: the gap bytes' offsets, the payload offsets that no field of the layout covers, rising. -/
def Params.gapOffsets (p : Params) : List Nat :=
  (List.range p.L).filter fun o => ¬ ∃ f ∈ p.layout, f.Covers o

/-! ## The instance of this model: open values, nothing in Lean can evaluate them -/

/-- `L - 1` of the instance: any natural number, so that `L >= 1` (R5, D14). -/
opaque Config.payloadLenPred : Nat

/-- A list of fields; it is the instance's `LAYOUT` where it fits `L` (R5, D14). -/
opaque Config.rawLayout : List LayoutField

/-- `HOST_ORDER` of the instance (R5, D13). -/
opaque Config.hostOrder : ByteOrder

/-- `Z` of the instance (R5). -/
opaque Config.zoneCapacity : Nat

/-- `T` of the instance (R5). -/
opaque Config.targetsPerZone : Nat

/-- R5: the parameters of the instance that `exec` and `step` run. Every choice of parameters that R5 admits is a value
of the open constants above (log entry 1). -/
def Config.params : Params where
  L         := Config.payloadLenPred + 1
  layout    := if LayoutOk (Config.payloadLenPred + 1) Config.rawLayout then Config.rawLayout else []
  hostOrder := Config.hostOrder
  Z         := Config.zoneCapacity
  T         := Config.targetsPerZone

/-! ## Free values (R35: unspecified after `RST`); `n` counts the resets, `i` is a buffer offset (log entry 2) -/

/-- What `RBUF[i]` holds after reset number `n` while nothing has written it. -/
opaque Config.freeRbuf : Nat → Nat → Byte

/-- What `TBUF[i]` holds after reset number `n` while nothing has written it. -/
opaque Config.freeTbuf : Nat → Nat → Byte

/-- What reset number `n` leaves in `TRES`. -/
opaque Config.freeTres : Nat → Byte

/-- What reset number `n` leaves in `TCHK`. -/
opaque Config.freeTchk : Nat → Byte

/-! ## The spec's reference layouts (R86): for vectors and named instances only, never built into the machine -/

/-- R86: the fields of one zone that starts at payload offset `base`, for `T` targets. -/
def Reference.zone (T z base : Nat) : List LayoutField :=
  let pre := "zone[" ++ toString z ++ "]."
  let idx := fun t : Nat => "[" ++ toString t ++ "]"
  [⟨pre ++ "NumberOfTargets", base, 1, .uint⟩]
  ++ (List.range T).map (fun t => ⟨pre ++ "Distance" ++ idx t, base + 1 + 2 * t, 2, .sint⟩)
  ++ (List.range T).map (fun t => ⟨pre ++ "Status" ++ idx t, base + 1 + 2 * T + t, 1, .uint⟩)
  ++ (List.range T).map (fun t => ⟨pre ++ "Ambient" ++ idx t, base + 1 + 3 * T + 4 * t, 4, .float⟩)
  ++ (List.range T).map (fun t => ⟨pre ++ "Signal" ++ idx t, base + 1 + 7 * T + 4 * t, 4, .float⟩)

/-- R86: the packed reference layout for general `Z` and `T`. -/
def Reference.params (Z T : Nat) (order : ByteOrder) : Params where
  L         := 1 + Z * (1 + 11 * T)
  layout    := ⟨"zone_count", 0, 1, .uint⟩ :: (List.range Z).flatMap fun z => Reference.zone T z (1 + z * (1 + 11 * T))
  hostOrder := order
  Z         := Z
  T         := T

/-- R86: the instance *REF*. -/
def Reference.ref : Params := Reference.params 64 1 .little

/-- R86: the instance *SMALL*. -/
def Reference.small : Params := Reference.params 2 1 .little

/-- R86: the instance *TOY*: `L` and its two fields; `HOST_ORDER` is R5's reference value. R86 gives *TOY* no `Z` and no `T`,
and R5's reference values 64 and 1 describe no zone array here: both are 0 by DESIGN CHOICE (log entry 17). Nothing reads
them (U3). -/
def Reference.toy : Params where
  L         := 4
  layout    := [⟨"a", 0, 2, .uint⟩, ⟨"b", 2, 2, .sint⟩]
  hostOrder := .little
  Z         := 0
  T         := 0

end Sys2Proof
end

