-- ==== Sys2Proof/Syntax.lean ====
section
/-! DEFINITION. The syntax: the Result value (R55), the input events (R6, R88), the instructions (one constructor per row
of spec/opcode_table.json), the trace lines of R93 and the input items that a step takes. -/

namespace Sys2Proof

/-- R31: the control register `MODE`; bit 0 is `NATIVE`, bit 1 is `BIG`. -/
inductive Mode where
  | native
  | big
deriving DecidableEq, Repr, Inhabited

/-- R55: a Result value: the bit pattern of every field of `LAYOUT`, in the order of `LAYOUT`, and the gap byte of every
offset that no field covers. An entry that a list does not hold reads as zero (`ResultValue.pattern`,
`ResultValue.gap`); the canonical form, in which every entry is listed, is `ResultValue.WF`. -/
structure ResultValue where
  fields : List Nat
  gaps   : List (Nat × Byte)
deriving DecidableEq, Repr

/-- The Result value whose every bit is 0 (no entry listed). -/
def ResultValue.zero : ResultValue := ⟨[], []⟩

/-- R55: `r.f` for the field number `k` of the layout. -/
def ResultValue.pattern (r : ResultValue) (k : Nat) : Nat := r.fields.getD k 0

/-- R55: `r.gap[o]`. -/
def ResultValue.gap (r : ResultValue) (o : Nat) : Byte :=
  match r.gaps.find? (fun c => c.1 == o) with
  | some c => c.2
  | none   => 0

/-- R6, R88: the input events, and `NOP` (the step input word with no strobe). -/
inductive Event where
  | rst
  | setmode (m : Mode)
  | rxb (b : Byte)
  | rxt
  | txs (res : Byte) (r : ResultValue)
  | txp
  | nop
deriving DecidableEq, Repr

/-- R90: the nine sub-cases of `RXB`. -/
inductive RxCase where
  | start
  | junk
  | res
  | chk
  | endOk
  | badEnd
  | pay
  | lastOk
  | lastBad
deriving DecidableEq, Repr

/-- The instructions: one constructor per row of spec/opcode_table.json, in the table's order. Operand bits that the
block ignores (R91) are no operands. -/
inductive Instr where
  /-- `RST` (R160). -/
  | rst
  /-- `SETMODE m` (R161). -/
  | setmode (m : Mode)
  /-- `RXB.START` (R111): the byte is the start marker. -/
  | rxbStart
  /-- `RXB.JUNK` (R112). -/
  | rxbJunk (b : Byte)
  /-- `RXB.RES` (R113). -/
  | rxbRes (b : Byte)
  /-- `RXB.CHK` (R114). -/
  | rxbChk (b : Byte)
  /-- `RXB.END` (R115): the byte is the end marker. -/
  | rxbEnd
  /-- `RXB.BADEND` (R119). -/
  | rxbBadend (b : Byte)
  /-- `RXB.PAY` (R116). -/
  | rxbPay (b : Byte)
  /-- `RXB.LAST.OK` (R117). -/
  | rxbLastOk (b : Byte)
  /-- `RXB.LAST.BAD` (R118). -/
  | rxbLastBad (b : Byte)
  /-- `RXT` (R120). -/
  | rxt
  /-- `TXS res, r` accepted (R141). -/
  | txs (res : Byte) (r : ResultValue)
  /-- `TXS res, r` refused (R142). -/
  | txsRefused (res : Byte) (r : ResultValue)
  /-- `TXP` while `TBUSY = 1` (R143). -/
  | txp
  /-- `TXP` while `TBUSY = 0` (R144). -/
  | txpIdle
  /-- `NOP` (R162). -/
  | nop
  /-- A step input word with more than one strobe (R89): the strobes of bits 13:8, the data byte, the side port. -/
  | multiStrobe (strobes : BitVec 6) (data : Byte) (r : ResultValue)
  /-- The header of a frame on the wire (R80), as the four bytes the RX unit is given. -/
  | frameHeader (res chk : Byte)
  /-- `MODE BE` (R93). -/
  | modeBe
  /-- `MODE NAT` (R93). -/
  | modeNat
  /-- `RXS b0 b1 .. bn` (R93). -/
  | rxs (b : Byte) (bs : List Byte)
  /-- `RXFRAME res, img` (R93). -/
  | rxframe (res : Byte) (img : List Byte)
  /-- `TXALL` (R93). -/
  | txall
deriving DecidableEq, Repr

/-- R93: the lines of a trace that are not one step input word: the five pseudo-instructions. -/
inductive TraceLine where
  | modeBe
  | modeNat
  | rxs (b : Byte) (bs : List Byte)
  | rxframe (res : Byte) (img : List Byte)
  | txall
deriving DecidableEq, Repr

/-- What the environment presents to one step: a step input word with the side port `tx_result` (R88), the four bytes of
a header on the wire (R80; the first byte on the wire is the most significant, as the opcode table writes it), or a
pseudo-instruction line (R93). The last two stand for their events one after the other (log entry 5). -/
inductive Input where
  | word (w : StepWord) (txResult : ResultValue)
  | header (h : BitVec 32)
  | line (l : TraceLine)
deriving DecidableEq, Repr

/-- The part of the state that selects the row of an input word (R90 and the `state_condition`s of the opcode table). -/
structure Selector where
  rpos  : Nat
  racc  : Byte
  rchk  : Byte
  tbusy : Bool
deriving DecidableEq, Repr

/-- R35: what a `RST` leaves of the selecting registers. -/
def Selector.reset : Selector := ⟨0, 0#8, 0#8, false⟩

end Sys2Proof
end

