-- ==== Sys2Proof/WellFormed.lean ====
section
/-! DEFINITION. Which terms of the syntax are well formed for given parameters: the canonical form of a Result value
(R55) and the conditions on operands that the opcode table and R93 state. -/

namespace Sys2Proof

/-- R53, R55: one bit pattern below `2^(8w)` for every field, and one byte for every gap offset, rising. -/
abbrev ResultValue.WF (p : Params) (r : ResultValue) : Prop :=
  r.fields.length = p.layout.length ∧
  (∀ fu ∈ p.layout.zip r.fields, fu.2 < 2 ^ (8 * fu.1.w)) ∧
  r.gaps.map Prod.fst = p.gapOffsets

/-- How many strobes of a step input word are set. -/
def strobeCount (st : BitVec 6) : Nat :=
  ((List.range 6).filter fun i => st.getLsbD i).length

/-- The operand conditions of the opcode table's rows, and R93's `img` of `L` bytes. The side port of a word with several
strobes is read only where `tx_start` (strobe 1) is among them (R88). -/
def Instr.wf (p : Params) : Instr → Bool
  | .rxbJunk b         => b != Config.startMarker
  | .rxbBadend b       => b != Config.endMarker
  | .txs _ r           => decide (r.WF p)
  | .txsRefused _ r    => decide (r.WF p)
  | .multiStrobe st _ r => decide (2 ≤ strobeCount st) && (!st.getLsbD 1 || decide (r.WF p))
  | .rxframe _ img     => img.length == p.L
  | .rst | .setmode _ | .rxbStart | .rxbRes _ | .rxbChk _ | .rxbEnd | .rxbPay _ | .rxbLastOk _ | .rxbLastBad _
  | .rxt | .txp | .txpIdle | .nop | .frameHeader _ _ | .modeBe | .modeNat | .rxs _ _ | .txall => true

end Sys2Proof
end

