-- ==== Sys2Proof/Decode.lean ====
section
/-! DEFINITION. Decoding: the step input word (R88, R89), the sub-decode of `RXB` by the frame position (R90) and of
`TXS`, `TXP` by `TBUSY`, the header of a frame (R80), the trace lines (R93). Then the encoder and the canonical words of
a trace. Decoding is total on what a step is given; the reader of raw table words rejects by name. -/

namespace Sys2Proof

/-! ## Fields of the step input word (R88) -/

/-- R88: the six strobes, bits 13:8: `rst`, `rx_valid`, `rx_timeout`, `cfg_we`, `tx_start`, `tx_pop` from the top. -/
def wordStrobes (w : StepWord) : BitVec 6 := w.extractLsb' 8 6

/-- R88: the data byte, bits 7:0. -/
def wordData (w : StepWord) : Byte := w.extractLsb' 0 8

/-- R88: the step input word of given strobes and data. -/
def mkWord (strobes : BitVec 6) (data : Byte) : StepWord := strobes ++ data

/-- R161: `m = data[0]`, 0 = `NATIVE`, 1 = `BIG`; `data[7:1]` ignored. -/
def Mode.ofData (d : Byte) : Mode := if d.getLsbD 0 then .big else .native

/-- R31: the bit of a mode as a data byte. -/
def Mode.toData : Mode → Byte
  | .native => 0x00#8
  | .big    => 0x01#8

/-- R88: the one strobe of each input event. -/
def strobeRst : BitVec 6 := 0x20#6
/-- R88: `rx_valid`. -/
def strobeRxValid : BitVec 6 := 0x10#6
/-- R88: `rx_timeout`. -/
def strobeRxTimeout : BitVec 6 := 0x08#6
/-- R88: `cfg_we`. -/
def strobeCfgWe : BitVec 6 := 0x04#6
/-- R88: `tx_start`. -/
def strobeTxStart : BitVec 6 := 0x02#6
/-- R88: `tx_pop`. -/
def strobeTxPop : BitVec 6 := 0x01#6

/-- R89: the events of a word, in the fixed order `RST, SETMODE, RXB, RXT, TXS, TXP`, all reading the same data byte. -/
def wordEvents (st : BitVec 6) (d : Byte) (r : ResultValue) : List Event :=
  (if st.getLsbD 5 then [.rst] else [])
  ++ (if st.getLsbD 2 then [.setmode (Mode.ofData d)] else [])
  ++ (if st.getLsbD 4 then [.rxb d] else [])
  ++ (if st.getLsbD 3 then [.rxt] else [])
  ++ (if st.getLsbD 1 then [.txs d r] else [])
  ++ (if st.getLsbD 0 then [.txp] else [])

/-! ## Sub-decode (R90, R110) -/

/-- R110: which sub-case `RXB b` is. The chain of R110's pseudocode: its last branch is the position `L + 3`. -/
def rxCase (p : Params) (q : Selector) (b : Byte) : RxCase :=
  if q.rpos = 0 then (if b = Config.startMarker then .start else .junk)
  else if q.rpos = 1 then .res
  else if q.rpos = 2 then .chk
  else if q.rpos = 3 then (if b = Config.endMarker then .endOk else .badEnd)
  else if q.rpos ≤ p.L + 2 then .pay
  else if q.racc ^^^ b = q.rchk then .lastOk
  else .lastBad

/-- R90: the row of each sub-case. -/
def rxInstr (b : Byte) : RxCase → Instr
  | .start   => .rxbStart
  | .junk    => .rxbJunk b
  | .res     => .rxbRes b
  | .chk     => .rxbChk b
  | .endOk   => .rxbEnd
  | .badEnd  => .rxbBadend b
  | .pay     => .rxbPay b
  | .lastOk  => .rxbLastOk b
  | .lastBad => .rxbLastBad b

/-- R88 to R91: the instruction of a step input word in a state with the selector `q`. -/
def decodeWord (p : Params) (q : Selector) (w : StepWord) (r : ResultValue) : Instr :=
  let st := wordStrobes w
  let d := wordData w
  if st = strobeRst then .rst
  else if st = strobeCfgWe then .setmode (Mode.ofData d)
  else if st = strobeRxValid then rxInstr d (rxCase p q d)
  else if st = strobeRxTimeout then .rxt
  else if st = strobeTxStart then (if q.tbusy then .txsRefused d r else .txs d r)
  else if st = strobeTxPop then (if q.tbusy then .txp else .txpIdle)
  else if st = 0#6 then .nop
  else .multiStrobe st d r

/-! ## The header of a frame (R80) and the trace lines (R93) -/

/-- Byte `k` of the four header bytes; byte 0 is the first on the wire, the most significant of the table's pattern. -/
def headerByte (h : BitVec 32) (k : Nat) : Byte := h.extractLsb' (8 * (3 - k)) 8

/-- R80: four wire bytes with the two markers in place are a header; any other four are just four received bytes. -/
def decodeHeader (h : BitVec 32) : Instr :=
  if headerByte h 0 = Config.startMarker ∧ headerByte h 3 = Config.endMarker then
    .frameHeader (headerByte h 1) (headerByte h 2)
  else .rxs (headerByte h 0) [headerByte h 1, headerByte h 2, headerByte h 3]

/-- R93: the instruction of a pseudo-instruction line. -/
def decodeLine : TraceLine → Instr
  | .modeBe          => .modeBe
  | .modeNat         => .modeNat
  | .rxs b bs        => .rxs b bs
  | .rxframe res img => .rxframe res img
  | .txall           => .txall

/-- The instruction that an input item is in a state with the selector `q`. -/
def decode (p : Params) (q : Selector) : Input → Instr
  | .word w r => decodeWord p q w r
  | .header h => decodeHeader h
  | .line l   => decodeLine l

/-! ## Raw words of the opcode table -/

/-- Why a raw bit pattern is no input item of the block. -/
inductive DecodeReject where
  /-- A 16-bit container whose bits 15:14 are not zero: the step input word has 14 bits (R88). -/
  | aboveStepWord
  /-- A container of another size than a step input word (at most 16 bits) or a wire header (32 bits). -/
  | noSuchWidth
deriving DecidableEq, Repr

/-- The input item of a raw pattern of `nbits` bits; the side port, which the table gives no bits, is all zero. -/
def readRaw (nbits w : Nat) : Except DecodeReject Input :=
  if nbits ≤ 16 then
    if w < 2 ^ 14 then .ok (.word (BitVec.ofNat 14 w) ResultValue.zero) else .error .aboveStepWord
  else if nbits = 32 then .ok (.header (BitVec.ofNat 32 w))
  else .error .noSuchWidth

/-- The instruction the decoder reads from a raw word of the opcode table in the state after reset. The rows of `RXB`
share their bits and are told apart by the state (R90): this is the one the reset state selects (log entry 6). -/
def decodeTableWord (nbits w : Nat) : Option Instr :=
  match readRaw nbits w with
  | .ok x    => some (decode Config.params Selector.reset x)
  | .error _ => none

/-! ## Encoding -/

/-- R88: the canonical word of an event, with its side port. -/
def eventInput : Event → Input
  | .rst       => .word (mkWord strobeRst 0#8) .zero
  | .setmode m => .word (mkWord strobeCfgWe m.toData) .zero
  | .rxb b     => .word (mkWord strobeRxValid b) .zero
  | .rxt       => .word (mkWord strobeRxTimeout 0#8) .zero
  | .txs res r => .word (mkWord strobeTxStart res) r
  | .txp       => .word (mkWord strobeTxPop 0#8) .zero
  | .nop       => .word (mkWord 0#6 0#8) .zero

/-- R80: the 32-bit pattern of a header, first wire byte most significant. -/
def headerPattern (res chk : Byte) : BitVec 32 :=
  Config.startMarker ++ res ++ chk ++ Config.endMarker

/-- The input item of an instruction, written from the encodings of R88, R80 and R93. -/
def encode : Instr → Input
  | .rst               => eventInput .rst
  | .setmode m         => eventInput (.setmode m)
  | .rxbStart          => eventInput (.rxb Config.startMarker)
  | .rxbJunk b         => eventInput (.rxb b)
  | .rxbRes b          => eventInput (.rxb b)
  | .rxbChk b          => eventInput (.rxb b)
  | .rxbEnd            => eventInput (.rxb Config.endMarker)
  | .rxbBadend b       => eventInput (.rxb b)
  | .rxbPay b          => eventInput (.rxb b)
  | .rxbLastOk b       => eventInput (.rxb b)
  | .rxbLastBad b      => eventInput (.rxb b)
  | .rxt               => eventInput .rxt
  | .txs res r         => eventInput (.txs res r)
  | .txsRefused res r  => eventInput (.txs res r)
  | .txp               => eventInput .txp
  | .txpIdle           => eventInput .txp
  | .nop               => eventInput .nop
  | .multiStrobe st d r => .word (mkWord st d) r
  | .frameHeader res chk => .header (headerPattern res chk)
  | .modeBe            => .line .modeBe
  | .modeNat           => .line .modeNat
  | .rxs b bs          => .line (.rxs b bs)
  | .rxframe res img   => .line (.rxframe res img)
  | .txall             => .line .txall

/-- The `state_condition` of the opcode table's row: the state that makes its word this row and no other. -/
def Instr.selectedBy (p : Params) (q : Selector) : Instr → Bool
  | .rxbStart         => rxCase p q Config.startMarker == .start
  | .rxbJunk b        => rxCase p q b == .junk
  | .rxbRes b         => rxCase p q b == .res
  | .rxbChk b         => rxCase p q b == .chk
  | .rxbEnd           => rxCase p q Config.endMarker == .endOk
  | .rxbBadend b      => rxCase p q b == .badEnd
  | .rxbPay b         => rxCase p q b == .pay
  | .rxbLastOk b      => rxCase p q b == .lastOk
  | .rxbLastBad b     => rxCase p q b == .lastBad
  | .txs _ _          => !q.tbusy
  | .txsRefused _ _   => q.tbusy
  | .txp              => q.tbusy
  | .txpIdle          => !q.tbusy
  | .rst | .setmode _ | .rxt | .nop | .multiStrobe _ _ _ | .frameHeader _ _ | .modeBe | .modeNat | .rxs _ _
  | .rxframe _ _ | .txall => true

/-! ## Events and canonical traces -/

/-- R121: the XOR of all bytes of a sequence. -/
def xorAll (s : List Byte) : Byte := s.foldl (fun acc b => acc ^^^ b) 0x00#8

/-- R80, R93: the bytes of a frame with the resolution `res` and the payload `img`. -/
def frameBytes (res : Byte) (img : List Byte) : List Byte :=
  [Config.startMarker, res, xorAll img, Config.endMarker] ++ img

/-- The events an instruction stands for, in order (R88, R89, R93; the header as its four received bytes, R61). -/
def Instr.events (p : Params) : Instr → List Event
  | .rst               => [.rst]
  | .setmode m         => [.setmode m]
  | .rxbStart          => [.rxb Config.startMarker]
  | .rxbJunk b         => [.rxb b]
  | .rxbRes b          => [.rxb b]
  | .rxbChk b          => [.rxb b]
  | .rxbEnd            => [.rxb Config.endMarker]
  | .rxbBadend b       => [.rxb b]
  | .rxbPay b          => [.rxb b]
  | .rxbLastOk b       => [.rxb b]
  | .rxbLastBad b      => [.rxb b]
  | .rxt               => [.rxt]
  | .txs res r         => [.txs res r]
  | .txsRefused res r  => [.txs res r]
  | .txp               => [.txp]
  | .txpIdle           => [.txp]
  | .nop               => [.nop]
  | .multiStrobe st d r => wordEvents st d r
  | .frameHeader res chk => [.rxb Config.startMarker, .rxb res, .rxb chk, .rxb Config.endMarker]
  | .modeBe            => [.setmode .big]
  | .modeNat           => [.setmode .native]
  | .rxs b bs          => (b :: bs).map .rxb
  | .rxframe res img   => (frameBytes res img).map .rxb
  | .txall             => List.replicate (p.L + Config.headerLen) .txp

/-- R93: the encoding of an instruction as a trace: the list of its canonical step input words. -/
def Instr.canonicalWords (p : Params) (i : Instr) : List Input := (i.events p).map eventInput

end Sys2Proof
end

