-- ==== Sys2Proof/Machine/State.lean ====
section
/-! DEFINITION. The state: the eleven pieces of R20, and the model's own fields (the input items not yet presented, the
output port of the step just taken, the counter of resets). Output events (R94), faults, refusals, the state after
reset (R200). -/

namespace Sys2Proof.Machine

/-- A payload buffer, as (offset, byte) cells with rising offsets; an offset that is not listed has not been written
since the last reset. -/
abbrev Memory := List Host.Cell

/-- The one canonical form of a buffer: offsets strictly rising (an unlisted offset reads as no value, so that no entry
can equal it). -/
abbrev Memory.WF (m : Memory) : Prop := m.Pairwise fun x y => x.1 < y.1

/-- R170 to R173, R176: the three decode errors with their `info`. -/
inductive DecodeErr where
  /-- R171: `FramingError`, `info = (pos, byte)`. -/
  | framing (pos : Nat) (byte : Byte)
  /-- R172: `TruncatedError`, `info = (pos)`. -/
  | truncated (pos : Nat)
  /-- R173: `ChecksumError`, `info = (hdr, calc)`; `calc` is `computed` here. -/
  | checksum (hdr computed : Byte)
deriving DecidableEq, Repr

/-- R94: the packet of a `FRAME` event. -/
structure Packet where
  start      : Byte
  resolution : Byte
  checksum   : Byte
  endMarker  : Byte
  payload    : List Byte
deriving DecidableEq, Repr

/-- R94: the four output events. -/
inductive Output where
  | frame (packet : Packet) (result : ResultValue)
  | err (e : DecodeErr)
  | txByte (b : Byte)
  | txRefused
deriving DecidableEq, Repr

/-- Why the machine stops. -/
inductive Fault where
  /-- Raised by `TXP` (and by the words and lines that hold one) when `TPOS` is beyond `L + 3`, where `frame_byte` names
  no byte (R145). No state reachable from reset has such a `TPOS` (R36). Safe. -/
  | txPositionOutsideFrame
deriving DecidableEq, Repr

/-- Why there is no step. -/
inductive Refusal where
  /-- An instruction whose arm has no meaning yet. Safe. -/
  | notModelled (mnemonic : String)
  /-- Raised by `step` when the environment presents no input item: there is no step without an input event (R6). Safe. -/
  | noInputEvent
  /-- Raised by the meaning of a row of the opcode table in a state that does not meet the row's state condition: the
  word is another row there (R90, R141 to R144). `step` decodes by the state and never raises it. Safe. -/
  | caseNotSelected
deriving DecidableEq, Repr

structure State where
  /-- R21: RX frame position counter, `0 .. L + 3`. -/
  rpos  : Nat
  /-- R22: resolution byte of the candidate frame. -/
  rres  : Byte
  /-- R23: checksum byte of the candidate frame. -/
  rchk  : Byte
  /-- R24: running XOR accumulator. -/
  racc  : Byte
  /-- R25: RX payload buffer, offsets `0 .. L - 1`. -/
  rbuf  : Memory
  /-- R26: a frame is being sent. -/
  tbusy : Bool
  /-- R27: TX frame position counter, `0 .. L + 3`. -/
  tpos  : Nat
  /-- R28: resolution byte of the frame being sent. -/
  tres  : Byte
  /-- R29: checksum byte of the frame being sent. -/
  tchk  : Byte
  /-- R30: TX payload buffer, offsets `0 .. L - 1`. -/
  tbuf  : Memory
  /-- R31: the byte-order mode. -/
  mode  : Mode
  /-- The model's own: the input items the environment will present, next first (log entry 4). -/
  input : List Input
  /-- The model's own: the output events of the step just taken, in order (log entry 3). -/
  out   : List Output
  /-- The model's own: the number of `RST` events so far, which indexes the free values (log entry 2). -/
  resets : Nat
deriving DecidableEq, Repr

/-- R200, R35: the state after reset. The spec leaves `RBUF`, `TBUF`, `TRES`, `TCHK` unspecified: the buffers hold no
written byte, and `TRES`, `TCHK` are zero here by DESIGN CHOICE (log entry 2). -/
def State.reset : State where
  rpos   := 0
  rres   := 0x00#8
  rchk   := 0x00#8
  racc   := 0x00#8
  rbuf   := []
  tbusy  := false
  tpos   := 0
  tres   := 0x00#8
  tchk   := 0x00#8
  tbuf   := []
  mode   := .big
  input  := []
  out    := []
  resets := 0

/-- The registers that select the row of an input word. -/
def State.selector (s : State) : Selector := ⟨s.rpos, s.racc, s.rchk, s.tbusy⟩

end Sys2Proof.Machine
end

