-- ==== Sys2Proof/Machine/Ops.lean ====
section
/-! DEFINITION. The named operations: reading and writing a payload buffer, emitting an output event, taking a decode
error (R179), running operations one after the other. There is no return from an error (R180). -/

namespace Sys2Proof.Machine

/-! ## Buffers -/

/-- The byte written at offset `a`, if one was written since the last reset. -/
def Memory.read : Memory → Nat → Option Byte
  | [],          _ => none
  | (k, v) :: m, a => if k = a then some v else Memory.read m a

/-- R9: `MemWrite(buf, a, 1, b)`; keeps the offsets rising. -/
def Memory.write : Memory → Nat → Byte → Memory
  | [],          a, b => [(a, b)]
  | (k, v) :: m, a, b =>
    if a < k then (a, b) :: (k, v) :: m
    else if a = k then (a, b) :: m
    else (k, v) :: Memory.write m a b

/-- The buffer that holds the bytes `bs` from offset `a` on and nothing else. -/
def Memory.ofBytesFrom : Nat → List Byte → Memory
  | _, []      => []
  | a, b :: bs => (a, b) :: Memory.ofBytesFrom (a + 1) bs

/-- R9: `MemRead(RBUF, i, 1)`. A byte that nothing has written since the last reset is a free value (R35). -/
def rbufByte (s : State) (i : Nat) : Byte := (s.rbuf.read i).getD (Config.freeRbuf s.resets i)

/-- R9: `MemRead(TBUF, i, 1)`; unwritten bytes as for `RBUF`. -/
def tbufByte (s : State) (i : Nat) : Byte := (s.tbuf.read i).getD (Config.freeTbuf s.resets i)

/-- `RBUF[0 .. n-1]`. -/
def rbufBytes (s : State) (n : Nat) : List Byte := (List.range n).map (rbufByte s)

/-- `TBUF[0 .. n-1]`. -/
def tbufBytes (s : State) (n : Nat) : List Byte := (List.range n).map (tbufByte s)

/-! ## Output and errors -/

/-- R9: `emit E`: the event is appended to the output list of the step. -/
def emit (o : Output) (s : State) : State := { s with out := s.out ++ [o] }

/-- R179: taking a decode error: report it, `RPOS <- 0`, and nothing else. Nothing is saved and control goes to no
handler; the unit is hunting again (R180). -/
def raise (e : DecodeErr) (s : State) : State := emit (.err e) { s with rpos := 0 }

/-! ## Sequencing -/

/-- Go on with `f` where `o` is a next state. -/
def andThen (o : Host.Outcome State Fault Refusal) (f : State → Host.Outcome State Fault Refusal) :
    Host.Outcome State Fault Refusal :=
  match o with
  | .next s    => f s
  | .fault r   => .fault r
  | .refused r => .refused r

/-- The meaning `f` of a sub-case of `RXB`, where the state and the byte select that sub-case (R90). -/
def whenCase (p : Params) (c : RxCase) (b : Byte) (s : State) (f : State → State) :
    Host.Outcome State Fault Refusal :=
  if rxCase p s.selector b = c then .next (f s) else .refused .caseNotSelected

/-- The meaning `o` of a row for one value of `TBUSY` (the opcode table's state condition). -/
def whenBusy (v : Bool) (s : State) (o : Host.Outcome State Fault Refusal) : Host.Outcome State Fault Refusal :=
  if s.tbusy = v then o else .refused .caseNotSelected

end Sys2Proof.Machine
end

