-- ==== Sys2Proof/Machine/Control.lean ====
section
/-! DEFINITION. The control events: `RST` (R160), `SETMODE` (R161), `NOP` (R162), and the pseudo-instructions `MODE BE`
and `MODE NAT` (R93). -/

namespace Sys2Proof.Machine

/-- R160. `RBUF`, `TBUF`, `TRES`, `TCHK` are unspecified afterwards: the buffers hold no written byte (each reads as a
free value of this reset) and `TRES`, `TCHK` take free values (log entry 2). -/
def rstEffect (s : State) : State :=
  { s with
    rpos := 0, rres := 0x00#8, rchk := 0x00#8, racc := 0x00#8, rbuf := []
    tbusy := false, tpos := 0, tres := Config.freeTres s.resets, tchk := Config.freeTchk s.resets, tbuf := []
    mode := .big, resets := s.resets + 1 }

/-- R161. -/
def setmodeEffect (m : Mode) (s : State) : State := { s with mode := m }

/-! ## The meanings of the rows, for any parameters -/

/-- R160. -/
def rst (_ : Params) (s : State) : Host.Outcome State Fault Refusal := .next (rstEffect s)

/-- R161. -/
def setmode (_ : Params) (m : Mode) (s : State) : Host.Outcome State Fault Refusal := .next (setmodeEffect m s)

/-- R162. -/
def nop (_ : Params) (s : State) : Host.Outcome State Fault Refusal := .next s

/-- R93: `MODE BE` is `SETMODE 1`. -/
def modeBe (_ : Params) (s : State) : Host.Outcome State Fault Refusal := .next (setmodeEffect .big s)

/-- R93: `MODE NAT` is `SETMODE 0`. -/
def modeNat (_ : Params) (s : State) : Host.Outcome State Fault Refusal := .next (setmodeEffect .native s)

/-! ## The meanings of the instance -/

/-- `RST` (R160). -/
def execRst (s : State) : Host.Outcome State Fault Refusal := rst Config.params s

/-- `SETMODE` (R161). -/
def execSetmode (m : Mode) (s : State) : Host.Outcome State Fault Refusal := setmode Config.params m s

/-- `NOP` (R162). -/
def execNop (s : State) : Host.Outcome State Fault Refusal := nop Config.params s

/-- `MODE BE` (R93). -/
def execModeBe (s : State) : Host.Outcome State Fault Refusal := modeBe Config.params s

/-- `MODE NAT` (R93). -/
def execModeNat (s : State) : Host.Outcome State Fault Refusal := modeNat Config.params s

end Sys2Proof.Machine
end

