-- ==== Sys2Proof/Machine/Operands.lean ====
section
/-! DEFINITION. Operand forms: byte order and fields (R52 to R54, R67, R87), the image of a Result (R55, R56), the bytes
of a frame (R140, R145), the buffer form of `decode` (R123). -/

namespace Sys2Proof.Machine

/-! ## Numbers (R8) -/

/-- R8: `zext_N(v)`. -/
def zext (n v : Nat) : Int := ((v % 2 ^ n : Nat) : Int)

/-- R8: `sext_N(v)`, two's complement. -/
def sext (n v : Nat) : Int := if v < 2 ^ (n - 1) then (v : Int) else (v : Int) - (2 ^ n : Nat)

/-- R54, R87: the value of a field of kind `k` and `w` bytes with the bit pattern `u`; a float is its pattern (R67). With
`w = 0`, where `sext` of R8 has no reading, every kind gives 0 for the only pattern, 0 (DESIGN CHOICE, log entry 15). -/
def fieldValue (k : Kind) (w u : Nat) : Int :=
  match k with
  | .uint  => zext (8 * w) u
  | .sint  => sext (8 * w) u
  | .float => zext (8 * w) u

/-! ## Byte order -/

/-- R52: the byte order of a mode. -/
def order (p : Params) : Mode → ByteOrder
  | .big    => .big
  | .native => p.hostOrder

/-- R8: `u[8k+7 : 8k]`. -/
def byteOf (u k : Nat) : Byte := BitVec.ofNat 8 (u >>> (8 * k))

/-- R53, R54: the place, counted from the least significant byte, of byte `i` of a field of `w` bytes. -/
def bytePlace (o : ByteOrder) (w i : Nat) : Nat :=
  match o with
  | .big    => w - 1 - i
  | .little => i

/-- R53: `ser_field(ord, w, u)`. -/
def serField (o : ByteOrder) (w u : Nat) : List Byte := (List.range w).map fun i => byteOf u (bytePlace o w i)

/-- R54: `deser_field(ord, w, s)`. -/
def deserField (o : ByteOrder) (w : Nat) (s : List Byte) : Nat :=
  ((List.range w).map fun i => (s.getD i 0).toNat * 2 ^ (8 * bytePlace o w i)).sum

/-! ## The image of a Result -/

/-- R9: `MemRead(img, off, w)`. -/
def slice (img : List Byte) (off w : Nat) : List Byte := (List.range w).map fun i => img.getD (off + i) 0

/-- R55: the byte at payload offset `o`: a field's byte where a field covers it, else the gap byte. -/
def serByte (p : Params) (m : Mode) (r : ResultValue) (o : Nat) : Byte :=
  match p.layout.findIdx? (fun f => decide (f.Covers o)) with
  | some k =>
    match p.layout[k]? with
    | some f => byteOf (r.pattern k) (bytePlace (order p m) f.w (o - f.off))
    | none   => r.gap o
  | none   => r.gap o

/-- R55: `ser(mode, r)`, `L` bytes. -/
def ser (p : Params) (m : Mode) (r : ResultValue) : List Byte := (List.range p.L).map (serByte p m r)

/-- R56: `deser(mode, img)`. -/
def deser (p : Params) (m : Mode) (img : List Byte) : ResultValue where
  fields := p.layout.map fun f => deserField (order p m) f.w (slice img f.off f.w)
  gaps   := p.gapOffsets.map fun o => (o, img.getD o 0)

/-! ## Frames -/

/-- R140: `encode(mode, res, r)`. -/
def encodeFrame (p : Params) (m : Mode) (res : Byte) (r : ResultValue) : List Byte := frameBytes res (ser p m r)

/-- R145: `frame_byte(k)`, for `0 <= k <= L + 3`. -/
def frameByte (p : Params) (s : State) (k : Nat) : Option Byte :=
  if k = 0 then some Config.startMarker
  else if k = 1 then some s.tres
  else if k = 2 then some s.tchk
  else if k = 3 then some Config.endMarker
  else if k ≤ p.L + 3 then some (tbufByte s (k - Config.headerLen))
  else none

/-- R94: the packet that the RX registers and the payload make. -/
def rxPacket (s : State) (payload : List Byte) : Packet :=
  ⟨Config.startMarker, s.rres, s.rchk, Config.endMarker, payload⟩

/-- R123: what the buffer form of `decode` returns. -/
inductive BufferResult where
  | framingError
  | truncatedError
  | checksumError
  | ok (resolution : Byte) (result : ResultValue)
deriving DecidableEq, Repr

/-- R123: `decode_buf(bs)` under the mode `m`. -/
def decodeBuf (p : Params) (m : Mode) (bs : List Byte) : BufferResult :=
  if 1 ≤ bs.length ∧ bs.getD 0 0 ≠ Config.startMarker then .framingError
  else if bs.length < Config.headerLen then .truncatedError
  else if bs.getD 3 0 ≠ Config.endMarker then .framingError
  else if bs.length - Config.headerLen < p.L then .truncatedError
  else if xorAll (slice bs Config.headerLen p.L) ≠ bs.getD 2 0 then .checksumError
  else .ok (bs.getD 1 0) (deser p m (slice bs Config.headerLen p.L))

end Sys2Proof.Machine
end

