-- ==== Sys2Proof/Machine/Flags.lean ====
section
/-! DEFINITION. The one flag `TBUSY` and how it moves with `TPOS` (R26, R27), the checksum step (R24, R121), the level
outputs (R32) and the port form of the output events (R94). The block has no condition codes. -/

namespace Sys2Proof.Machine

/-- R141: an accepted `TXS` sets `TBUSY` and puts `TPOS` at the first byte of the frame. -/
def txOpen (s : State) : State := { s with tpos := 0, tbusy := true }

/-- R143: after a byte is handed over, `TPOS` moves on; the last byte, at `L + 3`, clears `TBUSY` and `TPOS`. -/
def txAdvance (p : Params) (s : State) : State :=
  if s.tpos = p.L + 3 then { s with tpos := 0, tbusy := false } else { s with tpos := s.tpos + 1 }

/-- R116 to R118: one payload byte is stored at the offset `a` and folded into the accumulator. -/
def storePayload (a : Nat) (b : Byte) (s : State) : State :=
  { s with rbuf := s.rbuf.write a b, racc := s.racc ^^^ b }

/-- R32: the level output `tx_busy`. -/
def txBusy (s : State) : Bool := s.tbusy

/-- R32: the level output `rx_inframe`. -/
def rxInframe (s : State) : Bool := s.rpos != 0

/-- R94, R170: the numeric code of an error. -/
def errCode : DecodeErr → BitVec 2
  | .framing _ _  => 1#2
  | .truncated _  => 2#2
  | .checksum _ _ => 3#2

/-- R94: the strobes and data by which an output event leaves the block; a data port has a value only with its strobe. -/
structure OutputPort where
  frameValid : Bool
  errValid   : Bool
  errCode    : Option (BitVec 2)
  txValid    : Bool
  txData     : Option Byte
  txRefused  : Bool
deriving DecidableEq, Repr

/-- R94: the port form of an output event: one strobe per event kind. -/
def outputPort : Output → OutputPort
  | .frame _ _ => ⟨true, false, none, false, none, false⟩
  | .err e     => ⟨false, true, some (errCode e), false, none, false⟩
  | .txByte b  => ⟨false, false, none, true, some b, false⟩
  | .txRefused => ⟨false, false, none, false, none, true⟩

end Sys2Proof.Machine
end

