-- ==== Sys2Proof/Machine/Rx.lean ====
section
/-! DEFINITION. The RX unit: the nine sub-cases of `RXB` (R111 to R119) and `RXT` (R120). Each rule's pseudocode is one
effect; the meaning of a row is its effect where the row is selected (R90); the event `RXB b` selects it. -/

namespace Sys2Proof.Machine

/-! ## The effects -/

/-- R111. -/
def startEffect (s : State) : State := { s with rpos := 1 }

/-- R112. -/
def junkEffect (b : Byte) (s : State) : State := raise (.framing 0 b) s

/-- R113. -/
def resEffect (b : Byte) (s : State) : State := { s with rres := b, rpos := 2 }

/-- R114. -/
def chkEffect (b : Byte) (s : State) : State := { s with rchk := b, rpos := 3 }

/-- R115. -/
def endEffect (s : State) : State := { s with racc := 0x00#8, rpos := 4 }

/-- R119. -/
def badendEffect (b : Byte) (s : State) : State := raise (.framing 3 b) s

/-- R116. -/
def payEffect (b : Byte) (s : State) : State :=
  { storePayload (s.rpos - Config.headerLen) b s with rpos := s.rpos + 1 }

/-- R117: the frame is published from the state that holds its last byte; `MODE` is read here (R125). -/
def publish (p : Params) (s : State) : State :=
  emit (.frame (rxPacket s (rbufBytes s p.L)) (deser p s.mode (rbufBytes s p.L))) { s with rpos := 0 }

/-- R117. -/
def lastOkEffect (p : Params) (b : Byte) (s : State) : State := publish p (storePayload (p.L - 1) b s)

/-- R118: `calc` is the new value of `RACC`. -/
def lastBadEffect (p : Params) (b : Byte) (s : State) : State :=
  let t := storePayload (p.L - 1) b s
  raise (.checksum t.rchk t.racc) t

/-- R120. -/
def rxtEffect (s : State) : State := if s.rpos = 0 then s else raise (.truncated s.rpos) s

/-! ## The events -/

/-- The effect of each sub-case. -/
def rxEffect (p : Params) (b : Byte) (c : RxCase) (s : State) : State :=
  match c with
  | .start   => startEffect s
  | .junk    => junkEffect b s
  | .res     => resEffect b s
  | .chk     => chkEffect b s
  | .endOk   => endEffect s
  | .badEnd  => badendEffect b s
  | .pay     => payEffect b s
  | .lastOk  => lastOkEffect p b s
  | .lastBad => lastBadEffect p b s

/-- R110: the event `RXB b`. -/
def rxb (p : Params) (b : Byte) (s : State) : State := rxEffect p b (rxCase p s.selector b) s

/-! ## The meanings of the rows, for any parameters -/

/-- R111. -/
def rxbStart (p : Params) (s : State) : Host.Outcome State Fault Refusal :=
  whenCase p .start Config.startMarker s startEffect

/-- R112. -/
def rxbJunk (p : Params) (b : Byte) (s : State) : Host.Outcome State Fault Refusal :=
  whenCase p .junk b s (junkEffect b)

/-- R113. -/
def rxbRes (p : Params) (b : Byte) (s : State) : Host.Outcome State Fault Refusal :=
  whenCase p .res b s (resEffect b)

/-- R114. -/
def rxbChk (p : Params) (b : Byte) (s : State) : Host.Outcome State Fault Refusal :=
  whenCase p .chk b s (chkEffect b)

/-- R115. -/
def rxbEnd (p : Params) (s : State) : Host.Outcome State Fault Refusal :=
  whenCase p .endOk Config.endMarker s endEffect

/-- R119. -/
def rxbBadend (p : Params) (b : Byte) (s : State) : Host.Outcome State Fault Refusal :=
  whenCase p .badEnd b s (badendEffect b)

/-- R116. -/
def rxbPay (p : Params) (b : Byte) (s : State) : Host.Outcome State Fault Refusal :=
  whenCase p .pay b s (payEffect b)

/-- R117. -/
def rxbLastOk (p : Params) (b : Byte) (s : State) : Host.Outcome State Fault Refusal :=
  whenCase p .lastOk b s (lastOkEffect p b)

/-- R118. -/
def rxbLastBad (p : Params) (b : Byte) (s : State) : Host.Outcome State Fault Refusal :=
  whenCase p .lastBad b s (lastBadEffect p b)

/-- R120. -/
def rxt (_ : Params) (s : State) : Host.Outcome State Fault Refusal := .next (rxtEffect s)

/-! ## The meanings of the instance -/

/-- `RXB.START` (R111). -/
def execRxbStart (s : State) : Host.Outcome State Fault Refusal := rxbStart Config.params s

/-- `RXB.JUNK` (R112). -/
def execRxbJunk (b : Byte) (s : State) : Host.Outcome State Fault Refusal := rxbJunk Config.params b s

/-- `RXB.RES` (R113). -/
def execRxbRes (b : Byte) (s : State) : Host.Outcome State Fault Refusal := rxbRes Config.params b s

/-- `RXB.CHK` (R114). -/
def execRxbChk (b : Byte) (s : State) : Host.Outcome State Fault Refusal := rxbChk Config.params b s

/-- `RXB.END` (R115). -/
def execRxbEnd (s : State) : Host.Outcome State Fault Refusal := rxbEnd Config.params s

/-- `RXB.BADEND` (R119). -/
def execRxbBadend (b : Byte) (s : State) : Host.Outcome State Fault Refusal := rxbBadend Config.params b s

/-- `RXB.PAY` (R116). -/
def execRxbPay (b : Byte) (s : State) : Host.Outcome State Fault Refusal := rxbPay Config.params b s

/-- `RXB.LAST.OK` (R117). -/
def execRxbLastOk (b : Byte) (s : State) : Host.Outcome State Fault Refusal := rxbLastOk Config.params b s

/-- `RXB.LAST.BAD` (R118). -/
def execRxbLastBad (b : Byte) (s : State) : Host.Outcome State Fault Refusal := rxbLastBad Config.params b s

/-- `RXT` (R120). -/
def execRxt (s : State) : Host.Outcome State Fault Refusal := rxt Config.params s

end Sys2Proof.Machine
end

