-- ==== Sys2Proof/Machine/Tx.lean ====
section
/-! DEFINITION. The TX unit: `TXS` accepted and refused (R141, R142), `TXP` busy and idle (R143, R144). -/

namespace Sys2Proof.Machine

/-! ## The effects -/

/-- R141: the image of the Result, made under the present `MODE`, is copied whole. -/
def txLatch (p : Params) (res : Byte) (r : ResultValue) (s : State) : State :=
  txOpen { s with
    tbuf := Memory.ofBytesFrom 0 (ser p s.mode r)
    tres := res
    tchk := xorAll (ser p s.mode r) }

/-- R142. -/
def txRefuse (s : State) : State := emit .txRefused s

/-- R143. -/
def txSend (p : Params) (s : State) : Host.Outcome State Fault Refusal :=
  match frameByte p s s.tpos with
  | some b => .next (txAdvance p (emit (.txByte b) s))
  | none   => .fault .txPositionOutsideFrame

/-! ## The events -/

/-- R141, R142: the event `TXS res, r`. -/
def txsEvent (p : Params) (res : Byte) (r : ResultValue) (s : State) : State :=
  if s.tbusy then txRefuse s else txLatch p res r s

/-- R143, R144: the event `TXP`. -/
def txpEvent (p : Params) (s : State) : Host.Outcome State Fault Refusal :=
  if s.tbusy then txSend p s else .next s

/-! ## The meanings of the rows, for any parameters -/

/-- R141. -/
def txs (p : Params) (res : Byte) (r : ResultValue) (s : State) : Host.Outcome State Fault Refusal :=
  whenBusy false s (.next (txLatch p res r s))

/-- R142: `res` and `r` are dropped. -/
def txsRefused (_ : Params) (_ : Byte) (_ : ResultValue) (s : State) : Host.Outcome State Fault Refusal :=
  whenBusy true s (.next (txRefuse s))

/-- R143. -/
def txp (p : Params) (s : State) : Host.Outcome State Fault Refusal := whenBusy true s (txSend p s)

/-- R144. -/
def txpIdle (_ : Params) (s : State) : Host.Outcome State Fault Refusal := whenBusy false s (.next s)

/-! ## The meanings of the instance -/

/-- `TXS` (R141). -/
def execTxs (res : Byte) (r : ResultValue) (s : State) : Host.Outcome State Fault Refusal := txs Config.params res r s

/-- `TXS.REFUSED` (R142). -/
def execTxsRefused (res : Byte) (r : ResultValue) (s : State) : Host.Outcome State Fault Refusal :=
  txsRefused Config.params res r s

/-- `TXP` (R143). -/
def execTxp (s : State) : Host.Outcome State Fault Refusal := txp Config.params s

/-- `TXP.IDLE` (R144). -/
def execTxpIdle (s : State) : Host.Outcome State Fault Refusal := txpIdle Config.params s

end Sys2Proof.Machine
end

