-- ==== Sys2Proof/Machine/Sequences.lean ====
section
/-! DEFINITION. One event as a step function (R6, R163), sequences of events, and the rows that stand for a sequence: a
word with several strobes (R89), the header of a frame (R80), `RXS`, `RXFRAME`, `TXALL` (R93). -/

namespace Sys2Proof.Machine

/-- R6, R163: what one input event does. -/
def event (p : Params) : Event → State → Host.Outcome State Fault Refusal
  | .rst,       s => .next (rstEffect s)
  | .setmode m, s => .next (setmodeEffect m s)
  | .rxb b,     s => .next (rxb p b s)
  | .rxt,       s => .next (rxtEffect s)
  | .txs res r, s => .next (txsEvent p res r s)
  | .txp,       s => txpEvent p s
  | .nop,       s => .next s

/-- R63, R89: events one after the other, each a full step, the outputs concatenated. -/
def events (p : Params) : List Event → State → Host.Outcome State Fault Refusal
  | [],      s => .next s
  | e :: es, s => andThen (event p e s) (events p es)

/-! ## The meanings of the rows, for any parameters -/

/-- R89. -/
def multiStrobe (p : Params) (st : BitVec 6) (d : Byte) (r : ResultValue) (s : State) :
    Host.Outcome State Fault Refusal :=
  events p (wordEvents st d r) s

/-- R80, R61: the RX unit is given the four bytes of a header. -/
def frameHeader (p : Params) (res chk : Byte) (s : State) : Host.Outcome State Fault Refusal :=
  events p ([Config.startMarker, res, chk, Config.endMarker].map .rxb) s

/-- R93: `RXS b0 b1 .. bn`. -/
def rxs (p : Params) (b : Byte) (bs : List Byte) (s : State) : Host.Outcome State Fault Refusal :=
  events p ((b :: bs).map .rxb) s

/-- R93: `RXFRAME res, img`. -/
def rxframe (p : Params) (res : Byte) (img : List Byte) (s : State) : Host.Outcome State Fault Refusal :=
  events p ((frameBytes res img).map .rxb) s

/-- R93: `TXALL` is `TXP` repeated `L + 4` times. -/
def txall (p : Params) (s : State) : Host.Outcome State Fault Refusal :=
  events p (List.replicate (p.L + Config.headerLen) .txp) s

/-! ## The meanings of the instance -/

/-- A word with several strobes (R89). -/
def execMultiStrobe (st : BitVec 6) (d : Byte) (r : ResultValue) (s : State) : Host.Outcome State Fault Refusal :=
  multiStrobe Config.params st d r s

/-- The header of a frame (R80). -/
def execFrameHeader (res chk : Byte) (s : State) : Host.Outcome State Fault Refusal :=
  frameHeader Config.params res chk s

/-- `RXS` (R93). -/
def execRxs (b : Byte) (bs : List Byte) (s : State) : Host.Outcome State Fault Refusal := rxs Config.params b bs s

/-- `RXFRAME` (R93). -/
def execRxframe (res : Byte) (img : List Byte) (s : State) : Host.Outcome State Fault Refusal :=
  rxframe Config.params res img s

/-- `TXALL` (R93). -/
def execTxall (s : State) : Host.Outcome State Fault Refusal := txall Config.params s

end Sys2Proof.Machine
end

