-- ==== Sys2Proof/Machine/Dispatch.lean ====
section
/-! DEFINITION. What each instruction does: one arm per constructor of `Instr`. -/

namespace Sys2Proof.Machine

def exec (i : Instr) (s : State) : Host.Outcome State Fault Refusal :=
  match i with
  | .rst => Sys2Proof.Machine.execRst s
  | .setmode m => Sys2Proof.Machine.execSetmode m s
  | .rxbStart => Sys2Proof.Machine.execRxbStart s
  | .rxbJunk b => Sys2Proof.Machine.execRxbJunk b s
  | .rxbRes b => Sys2Proof.Machine.execRxbRes b s
  | .rxbChk b => Sys2Proof.Machine.execRxbChk b s
  | .rxbEnd => Sys2Proof.Machine.execRxbEnd s
  | .rxbBadend b => Sys2Proof.Machine.execRxbBadend b s
  | .rxbPay b => Sys2Proof.Machine.execRxbPay b s
  | .rxbLastOk b => Sys2Proof.Machine.execRxbLastOk b s
  | .rxbLastBad b => Sys2Proof.Machine.execRxbLastBad b s
  | .rxt => Sys2Proof.Machine.execRxt s
  | .txs res r => Sys2Proof.Machine.execTxs res r s
  | .txsRefused res r => Sys2Proof.Machine.execTxsRefused res r s
  | .txp => Sys2Proof.Machine.execTxp s
  | .txpIdle => Sys2Proof.Machine.execTxpIdle s
  | .nop => Sys2Proof.Machine.execNop s
  | .multiStrobe st d r => Sys2Proof.Machine.execMultiStrobe st d r s
  | .frameHeader res chk => Sys2Proof.Machine.execFrameHeader res chk s
  | .modeBe => Sys2Proof.Machine.execModeBe s
  | .modeNat => Sys2Proof.Machine.execModeNat s
  | .rxs b bs => Sys2Proof.Machine.execRxs b bs s
  | .rxframe res img => Sys2Proof.Machine.execRxframe res img s
  | .txall => Sys2Proof.Machine.execTxall s

end Sys2Proof.Machine
end

