-- ==== Sys2Proof/Machine/Step.lean ====
section
/-! DEFINITION. One step: the next input item is taken from the port, decoded by the state, and run; the output port
holds what this step emits and nothing older. `withFetchWord` presents a raw word of the opcode table. -/

namespace Sys2Proof.Machine

/-- The state in which an input item is run: the item has left the input port and the output port is empty. -/
def State.accept (rest : List Input) (s : State) : State := { s with input := rest, out := [] }

/-- R6: one step takes one input item; there is no step without one. -/
def step (s : State) : Host.Outcome State Fault Refusal :=
  match s.input with
  | []        => .refused .noInputEvent
  | x :: rest => exec (decode Config.params s.selector x) (s.accept rest)

/-- `s` with the raw word presented next at the input port. A pattern that is no input item of the block presents
nothing. -/
def State.withFetchWord (s : State) (nbits w : Nat) : State :=
  match readRaw nbits w with
  | .ok x    => { s with input := x :: s.input }
  | .error _ => s

end Sys2Proof.Machine
end

