-- ==== Sys2Proof/Machine/Run.lean ====
section
/-! DEFINITION. Runs: `k` steps with all their outputs, and the same machine for any parameters in place of the
instance's (R5: the model takes them as arguments). -/

namespace Sys2Proof.Machine

/-- What a run answers: the last state and every output event of its steps, in order. -/
abbrev Trace := Host.Outcome (State × List Output) Fault Refusal

/-- `k` steps of the machine `f`, the output lists of the steps concatenated. -/
def traceWith (f : State → Host.Outcome State Fault Refusal) : Nat → State → Trace
  | 0,     s => .next (s, [])
  | k + 1, s =>
    match f s with
    | .next t =>
      match traceWith f k t with
      | .next (u, os) => .next (u, t.out ++ os)
      | .fault r      => .fault r
      | .refused r    => .refused r
    | .fault r   => .fault r
    | .refused r => .refused r

/-- `k` steps of `step`. -/
def trace : Nat → State → Trace := traceWith step

/-- `exec` for any parameters. -/
def execWith (p : Params) : Instr → State → Host.Outcome State Fault Refusal
  | .rst,                s => rst p s
  | .setmode m,          s => setmode p m s
  | .rxbStart,           s => rxbStart p s
  | .rxbJunk b,          s => rxbJunk p b s
  | .rxbRes b,           s => rxbRes p b s
  | .rxbChk b,           s => rxbChk p b s
  | .rxbEnd,             s => rxbEnd p s
  | .rxbBadend b,        s => rxbBadend p b s
  | .rxbPay b,           s => rxbPay p b s
  | .rxbLastOk b,        s => rxbLastOk p b s
  | .rxbLastBad b,       s => rxbLastBad p b s
  | .rxt,                s => rxt p s
  | .txs res r,          s => txs p res r s
  | .txsRefused res r,   s => txsRefused p res r s
  | .txp,                s => txp p s
  | .txpIdle,            s => txpIdle p s
  | .nop,                s => nop p s
  | .multiStrobe st d r, s => multiStrobe p st d r s
  | .frameHeader res chk, s => frameHeader p res chk s
  | .modeBe,             s => modeBe p s
  | .modeNat,            s => modeNat p s
  | .rxs b bs,           s => rxs p b bs s
  | .rxframe res img,    s => rxframe p res img s
  | .txall,              s => txall p s

/-- `step` for any parameters. -/
def stepWith (p : Params) (s : State) : Host.Outcome State Fault Refusal :=
  match s.input with
  | []        => .refused .noInputEvent
  | x :: rest => execWith p (decode p s.selector x) (s.accept rest)

end Sys2Proof.Machine
end

