-- ==== Sys2Proof/Safety.lean ====
section
/-! DEFINITION. What claims are stated in: the invariant of R36 and R38, the registers the spec gives the block (R20),
the order of bytes of a field, the outputs of the two units. -/

namespace Sys2Proof

open Sys2Proof.Machine

/-- R36, R38, and the canonical form of the two buffers. Item numbers are R36's; its items 3 and 4 are about bytes
received, which are no state, and are stated over sequences of events. -/
structure BlockInv (p : Params) (s : State) : Prop where
  /-- Item 1. -/
  rpos_le : s.rpos ≤ p.L + 3
  /-- Item 1. -/
  tpos_le : s.tpos ≤ p.L + 3
  /-- Item 2: the accumulator holds the XOR of the payload bytes received. -/
  racc_eq : 4 ≤ s.rpos → s.racc = xorAll (rbufBytes s (s.rpos - 4))
  /-- Item 2, R38: the payload bytes received have been written. -/
  rbuf_written : ∀ i, i + 4 < s.rpos → (s.rbuf.read i).isSome
  /-- Item 5. -/
  tchk_eq : s.tbusy = true → s.tchk = xorAll (tbufBytes s p.L)
  /-- R38: a frame being sent has been written whole. -/
  tbuf_written : s.tbusy = true → ∀ i, i < p.L → (s.tbuf.read i).isSome
  /-- Item 5. -/
  tx_idle : s.tbusy = false → s.tpos = 0
  rbuf_wf : s.rbuf.WF
  rbuf_in : ∀ c ∈ s.rbuf, c.1 < p.L
  tbuf_wf : s.tbuf.WF
  tbuf_in : ∀ c ∈ s.tbuf, c.1 < p.L

/-- The registers of R20 that `RST` gives a specified value (R35) have that value. -/
structure ResetValues (s : State) : Prop where
  rpos  : s.rpos = 0
  rres  : s.rres = 0x00#8
  rchk  : s.rchk = 0x00#8
  racc  : s.racc = 0x00#8
  tbusy : s.tbusy = false
  tpos  : s.tpos = 0
  mode  : s.mode = .big

/-- R27, R62: an event of the RX unit. -/
def Event.isRx : Event → Bool
  | .rxb _ | .rxt => true
  | .rst | .setmode _ | .txs _ _ | .txp | .nop => false

/-- R62: an event of the TX unit. -/
def Event.isTx : Event → Bool
  | .txs _ _ | .txp => true
  | .rst | .setmode _ | .rxb _ | .rxt | .nop => false

/-- R7: an output of the RX unit (the others are the TX unit's). -/
def Machine.Output.isRx : Output → Bool
  | .frame _ _ | .err _ => true
  | .txByte _ | .txRefused => false

/-- The bytes a list of output events hands to the transmitter. -/
def sentBytes (os : List Output) : List Byte :=
  os.filterMap fun
    | .txByte b => some b
    | .frame _ _ | .err _ | .txRefused => none

/-- The input items `xs` run one after the other, each decoded by the state it meets (R63). -/
def runInputs : List Input → State → Host.Outcome State Fault Refusal
  | [],      s => .next s
  | x :: xs, s => andThen (exec (decode Config.params s.selector x) s) (runInputs xs)

/-- The canonical words of the events `es` run one after the other. -/
def runEvents (es : List Event) (s : State) : Host.Outcome State Fault Refusal := runInputs (es.map eventInput) s

/-- R116: what the payload byte `b` does to `s`: the byte stored at `RPOS - 4`, every other byte of `RBUF` and every other
register as before. -/
structure PayloadTaken (s : State) (b : Byte) (t : State) : Prop where
  rpos   : t.rpos = s.rpos + 1
  racc   : t.racc = s.racc ^^^ b
  stored : t.rbuf.read (s.rpos - 4) = some b
  others : ∀ a, a ≠ s.rpos - 4 → t.rbuf.read a = s.rbuf.read a
  frame  : { t with rpos := s.rpos, racc := s.racc, rbuf := s.rbuf } = s

/-- An output event without the view of the payload that `MODE` gives (R31). -/
def eraseView : Output → Output
  | .frame pk _ => .frame pk .zero
  | .err e      => .err e
  | .txByte b   => .txByte b
  | .txRefused  => .txRefused

end Sys2Proof
end

