-- ==== Sys2Proof/Certificates/Slice0/Obligations.lean ====
section
/-! DEFINITION. The statements for the provers. The words of the events are written out from R88: `0x20#6 ++ d` is the
step input word with the strobe `rst` and the data byte `d`, `0x10` is `rx_valid`, `0x08` `rx_timeout`, `0x04` `cfg_we`,
`0x02` `tx_start`, `0x01` `tx_pop`. The parameters are the instance's, which nothing in Lean can evaluate, or any
parameters `p` that R5 admits. -/

open Sys2Proof Sys2Proof.Machine

/-! ## Control -/

/-- R160, R35: `RST`, in any state, gives every register of R35's table its value, emits nothing, and leaves the input
items alone. What it leaves in `RBUF`, `TBUF`, `TRES`, `TCHK` is not said. The data byte is ignored. -/
def Obligations.RstReachesTheResetValues : Prop :=
  ∀ s : State,
    (∀ (d : Byte) (r : ResultValue), decode Config.params s.selector (.word (0x20#6 ++ d) r) = .rst) ∧
    ∃ t, exec .rst s = .next t ∧
      t.rpos = 0 ∧ t.rres = 0x00#8 ∧ t.rchk = 0x00#8 ∧ t.racc = 0x00#8 ∧ t.tbusy = false ∧ t.tpos = 0 ∧ t.mode = .big ∧
      t.out = s.out ∧ t.input = s.input

/-- R161: `SETMODE m` writes `MODE` and nothing else; `m` is bit 0 of the data byte, whose other bits are ignored. -/
def Obligations.SetmodeWritesModeOnly : Prop :=
  ∀ s : State,
    (∀ (d : Byte) (r : ResultValue), decode Config.params s.selector (.word (0x04#6 ++ d) r) = .setmode (if d.getLsbD 0 then .big else .native)) ∧
    ∀ m, exec (.setmode m) s = .next { s with mode := m }

/-- R162: a word with no strobe changes nothing and emits nothing, whatever its data byte. -/
def Obligations.NopChangesNothing : Prop :=
  ∀ s : State,
    (∀ (d : Byte) (r : ResultValue), decode Config.params s.selector (.word (0x00#6 ++ d) r) = .nop) ∧ exec .nop s = .next s

/-- R93: `MODE BE` does what `SETMODE 1` does and `MODE NAT` what `SETMODE 0` does. -/
def Obligations.ModeLinesAreSetmode : Prop :=
  ∀ s : State,
    exec .modeBe s = .next { s with mode := .big } ∧ exec .modeBe s = exec (.setmode .big) s ∧
    exec .modeNat s = .next { s with mode := .native } ∧ exec .modeNat s = exec (.setmode .native) s

/-- The state after reset has the values that R200 gives the registers (it is the state a run starts from, R201). -/
def Obligations.ResetStateHasTheResetValues : Prop := ResetValues State.reset

/-! ## The RX unit -/

/-- R90: the sub-case of `RXB b` at every frame position, both ways: each row of the table is taken exactly on its
condition. -/
def Obligations.RxbRowIsChosenByPositionAndByte : Prop :=
  ∀ (s : State) (b : Byte) (r : ResultValue), s.rpos ≤ Config.params.L + 3 →
    ∀ i, i = decode Config.params s.selector (.word (0x10#6 ++ b) r) →
      (i = .rxbStart ↔ s.rpos = 0 ∧ b = 0xAA#8) ∧
      (i = .rxbJunk b ↔ s.rpos = 0 ∧ b ≠ 0xAA#8) ∧
      (i = .rxbRes b ↔ s.rpos = 1) ∧
      (i = .rxbChk b ↔ s.rpos = 2) ∧
      (i = .rxbEnd ↔ s.rpos = 3 ∧ b = 0x55#8) ∧
      (i = .rxbBadend b ↔ s.rpos = 3 ∧ b ≠ 0x55#8) ∧
      (i = .rxbPay b ↔ 4 ≤ s.rpos ∧ s.rpos ≤ Config.params.L + 2) ∧
      (i = .rxbLastOk b ↔ s.rpos = Config.params.L + 3 ∧ s.racc ^^^ b = s.rchk) ∧
      (i = .rxbLastBad b ↔ s.rpos = Config.params.L + 3 ∧ s.racc ^^^ b ≠ s.rchk)

/-- R111, R113, R114, R115: the header bytes that are taken: the word of each, what it writes, and that it writes and
emits nothing else. -/
def Obligations.HeaderBytesAreTaken : Prop :=
  ∀ (s : State) (b : Byte) (r : ResultValue),
    (s.rpos = 0 → decode Config.params s.selector (.word 0x10AA#14 r) = .rxbStart ∧
      exec .rxbStart s = .next { s with rpos := 1 }) ∧
    (s.rpos = 1 → decode Config.params s.selector (.word (0x10#6 ++ b) r) = .rxbRes b ∧
      exec (.rxbRes b) s = .next { s with rres := b, rpos := 2 }) ∧
    (s.rpos = 2 → decode Config.params s.selector (.word (0x10#6 ++ b) r) = .rxbChk b ∧
      exec (.rxbChk b) s = .next { s with rchk := b, rpos := 3 }) ∧
    (s.rpos = 3 → decode Config.params s.selector (.word 0x1055#14 r) = .rxbEnd ∧
      exec .rxbEnd s = .next { s with racc := 0x00#8, rpos := 4 })

/-- R112, R119, R179: a wrong marker is reported with its offset and value, the unit is hunting, and every other register
keeps its value. -/
def Obligations.WrongMarkersRaiseFramingError : Prop :=
  ∀ (s : State) (b : Byte) (r : ResultValue),
    (s.rpos = 0 → b ≠ 0xAA#8 → decode Config.params s.selector (.word (0x10#6 ++ b) r) = .rxbJunk b ∧
      exec (.rxbJunk b) s = .next { s with out := s.out ++ [.err (.framing 0 b)] }) ∧
    (s.rpos = 3 → b ≠ 0x55#8 → decode Config.params s.selector (.word (0x10#6 ++ b) r) = .rxbBadend b ∧
      exec (.rxbBadend b) s = .next { s with rpos := 0, out := s.out ++ [.err (.framing 3 b)] })

/-- R116: a payload byte is stored at `RPOS - 4` and folded into `RACC`; every other byte of `RBUF` and every other
register is unchanged, and nothing is emitted. For any parameters (with `L = 1` there is no such position, R90), and for
the instance. -/
def Obligations.PayloadByteIsStoredAndFolded : Prop :=
  ∀ (s : State) (b : Byte) (r : ResultValue), 4 ≤ s.rpos →
    (∀ p : Params, s.rpos ≤ p.L + 2 → decode p s.selector (.word (0x10#6 ++ b) r) = .rxbPay b ∧
      ∃ t, execWith p (.rxbPay b) s = .next t ∧ PayloadTaken s b t) ∧
    (s.rpos ≤ Config.params.L + 2 → ∃ t, exec (.rxbPay b) s = .next t ∧ PayloadTaken s b t)

/-- R117, R125: the last byte of a good frame publishes it: the packet, and its view under the present `MODE`. Every
other byte of `RBUF` and every other register is unchanged. -/
def Obligations.LastGoodBytePublishesTheFrame : Prop :=
  ∀ (s : State) (b : Byte), s.rpos = Config.params.L + 3 → s.racc ^^^ b = s.rchk →
    ∀ payload, payload = rbufBytes s (Config.params.L - 1) ++ [b] →
    ∃ t, exec (.rxbLastOk b) s = .next t ∧
      t.rpos = 0 ∧ t.racc = s.racc ^^^ b ∧ rbufByte t (Config.params.L - 1) = b ∧
      t.out = s.out ++ [.frame ⟨0xAA#8, s.rres, s.rchk, 0x55#8, payload⟩ (deser Config.params s.mode payload)] ∧
      (∀ a, a ≠ Config.params.L - 1 → t.rbuf.read a = s.rbuf.read a) ∧
      { t with rpos := s.rpos, racc := s.racc, rbuf := s.rbuf, out := s.out } = s

/-- R118: the last byte of a frame whose checksum is wrong is stored and folded, the error carries the header's checksum
and the computed one, and nothing is published. Every other register is unchanged. -/
def Obligations.LastBadByteDiscardsTheFrame : Prop :=
  ∀ (s : State) (b : Byte), s.rpos = Config.params.L + 3 → s.racc ^^^ b ≠ s.rchk →
    ∃ t, exec (.rxbLastBad b) s = .next t ∧
      t.rpos = 0 ∧ t.racc = s.racc ^^^ b ∧ rbufByte t (Config.params.L - 1) = b ∧
      t.out = s.out ++ [.err (.checksum s.rchk (s.racc ^^^ b))] ∧
      (∀ a, a ≠ Config.params.L - 1 → t.rbuf.read a = s.rbuf.read a) ∧
      { t with rpos := s.rpos, racc := s.racc, rbuf := s.rbuf, out := s.out } = s

/-- R120: a time-out changes nothing while hunting; with a candidate open it reports how many bytes were accepted and
drops the candidate, every other register unchanged. The data byte is ignored. -/
def Obligations.TimeoutDropsTheCandidate : Prop :=
  ∀ s : State,
    (∀ (d : Byte) (r : ResultValue), decode Config.params s.selector (.word (0x08#6 ++ d) r) = .rxt) ∧
    (s.rpos = 0 → exec .rxt s = .next s) ∧
    (s.rpos ≠ 0 → exec .rxt s = .next { s with rpos := 0, out := s.out ++ [.err (.truncated s.rpos)] })

/-- R112: while hunting, bytes of which none is the start marker give one `FramingError` each and change nothing else. -/
def Obligations.EveryJunkByteIsReportedOnce : Prop :=
  ∀ (s : State) (b : Byte) (bs : List Byte), s.rpos = 0 → (∀ x ∈ b :: bs, x ≠ 0xAA#8) →
    exec (.rxs b bs) s = .next { s with out := s.out ++ (b :: bs).map fun x => .err (.framing 0 x) }

/-! ## The TX unit -/

/-- R141: an accepted `TXS` latches the image made under the present `MODE`, its checksum and the resolution byte, and
opens the frame; it emits nothing and writes nothing else. -/
def Obligations.AcceptedTxsLatchesTheFrame : Prop :=
  ∀ (s : State) (res : Byte) (r : ResultValue), s.tbusy = false →
    decode Config.params s.selector (.word (0x02#6 ++ res) r) = .txs res r ∧
    ∃ t, exec (.txs res r) s = .next t ∧
      t.tbusy = true ∧ t.tpos = 0 ∧ t.tres = res ∧ t.tchk = xorAll (ser Config.params s.mode r) ∧
      (∀ i, t.tbuf.read i = (ser Config.params s.mode r)[i]?) ∧
      { t with tbusy := s.tbusy, tpos := s.tpos, tres := s.tres, tchk := s.tchk, tbuf := s.tbuf } = s

/-- R142: a `TXS` while a frame is being sent emits `TXREFUSED` and changes no state. -/
def Obligations.TxsWhileBusyIsRefused : Prop :=
  ∀ (s : State) (res : Byte) (r : ResultValue), s.tbusy = true →
    decode Config.params s.selector (.word (0x02#6 ++ res) r) = .txsRefused res r ∧
    exec (.txsRefused res r) s = .next { s with out := s.out ++ [.txRefused] }

/-- R143, R145: `TXP` while busy hands over the byte of the frame at `TPOS`; `TPOS` moves on, and after the last byte
`TPOS` and `TBUSY` are clear. Nothing else changes. -/
def Obligations.TxpHandsOverTheNextByte : Prop :=
  ∀ s : State, s.tbusy = true → s.tpos ≤ Config.params.L + 3 →
    (∀ (d : Byte) (r : ResultValue), decode Config.params s.selector (.word (0x01#6 ++ d) r) = .txp) ∧
    ∀ b, b = (if s.tpos = 0 then 0xAA#8 else if s.tpos = 1 then s.tres else if s.tpos = 2 then s.tchk
        else if s.tpos = 3 then 0x55#8 else tbufByte s (s.tpos - 4)) →
      exec .txp s = .next (if s.tpos = Config.params.L + 3
        then { s with tpos := 0, tbusy := false, out := s.out ++ [.txByte b] }
        else { s with tpos := s.tpos + 1, out := s.out ++ [.txByte b] })

/-- R144: `TXP` while idle changes nothing and emits nothing. -/
def Obligations.TxpWhileIdleDoesNothing : Prop :=
  ∀ s : State, s.tbusy = false →
    (∀ (d : Byte) (r : ResultValue), decode Config.params s.selector (.word (0x01#6 ++ d) r) = .txpIdle) ∧ exec .txpIdle s = .next s

/-! ## Words with several strobes, the header, the pseudo-instructions -/

/-- R89: a word with several strobes is the sequence of its one-strobe words in the order
`RST, SETMODE, RXB, RXT, TXS, TXP`, all with the same data byte and side port, each decoded and run in the state the one
before it left; and it gives a next state wherever `TPOS` is a position of the frame. -/
def Obligations.SeveralStrobesAreTheirWordsInOrder : Prop :=
  ∀ (s : State) (st : BitVec 6) (d : Byte) (r : ResultValue), 2 ≤ strobeCount st →
    decode Config.params s.selector (.word (st ++ d) r) = .multiStrobe st d r ∧
    exec (.multiStrobe st d r) s =
      runInputs (([0x20#6, 0x04#6, 0x10#6, 0x08#6, 0x02#6, 0x01#6].filter fun x => st &&& x != 0#6).map
        fun x => .word (x ++ d) r) s ∧
    (s.tpos ≤ Config.params.L + 3 → ∃ t, exec (.multiStrobe st d r) s = .next t)

/-- R80, R111 to R115: the four bytes of a header, received while hunting, leave the unit at the first payload byte with
the two header registers loaded and the accumulator clear; at any other position they are taken as any received bytes. -/
def Obligations.HeaderOpensThePayload : Prop :=
  ∀ (s : State) (res chk : Byte),
    (s.rpos = 0 → exec (.frameHeader res chk) s = .next { s with rpos := 4, rres := res, rchk := chk, racc := 0x00#8 }) ∧
    exec (.frameHeader res chk) s = exec (.rxs 0xAA#8 [res, chk, 0x55#8]) s

/-- R93: `RXS` is the words of its bytes one after the other. It gives a next state from every state, and leaves the TX
unit, `MODE` and the input items as they were (R37). -/
def Obligations.RxsTakesEveryByte : Prop :=
  ∀ (s : State) (b : Byte) (bs : List Byte),
    ∃ t, exec (.rxs b bs) s = .next t ∧
      runInputs ((b :: bs).map fun x => .word (0x10#6 ++ x) .zero) s = .next t ∧
      { t with rpos := s.rpos, rres := s.rres, rchk := s.rchk, racc := s.racc, rbuf := s.rbuf, out := s.out } = s

/-- R93, R111 to R117: `RXFRAME res, img` while hunting publishes the frame of `img`, whatever the bytes, and leaves the
unit hunting; elsewhere it is the bytes of the frame. -/
def Obligations.RxframePublishesItsImage : Prop :=
  ∀ (s : State) (res : Byte) (img : List Byte), img.length = Config.params.L →
    exec (.rxframe res img) s = exec (.rxs 0xAA#8 ([res, xorAll img, 0x55#8] ++ img)) s ∧
    (s.rpos = 0 → ∃ t, exec (.rxframe res img) s = .next t ∧
      t.out = s.out ++ [.frame ⟨0xAA#8, res, xorAll img, 0x55#8, img⟩ (deser Config.params s.mode img)] ∧
      t.rpos = 0 ∧ t.rres = res ∧ t.rchk = xorAll img ∧ t.racc = xorAll img ∧
      rbufBytes t Config.params.L = img ∧
      { t with rres := s.rres, rchk := s.rchk, racc := s.racc, rbuf := s.rbuf, out := s.out } = s)

/-- R93, R143: `TXALL` hands over the rest of the frame being sent, in offset order, and leaves the unit idle; an idle
unit stays as it is. -/
def Obligations.TxallSendsTheRestOfTheFrame : Prop :=
  ∀ s : State,
    (s.tbusy = false → exec .txall s = .next s) ∧
    (s.tbusy = true → s.tpos ≤ Config.params.L + 3 →
      exec .txall s = .next { s with
        tbusy := false
        tpos := 0
        out := s.out ++
          (([0xAA#8, s.tres, s.tchk, 0x55#8] ++ tbufBytes s Config.params.L).drop s.tpos).map .txByte })

/-- R89, R93: every instruction, in a state that selects it, is the run of its canonical step input words: as many steps
as words, the same final state, the same output events. -/
def Obligations.EveryInstructionIsItsCanonicalTrace : Prop :=
  ∀ (i : Instr) (s t : State) (q : List Input), i.selectedBy Config.params s.selector = true →
    exec i (s.accept q) = .next t →
    ∃ u, trace (i.canonicalWords Config.params).length { s with input := i.canonicalWords Config.params ++ q }
        = .next (u, t.out) ∧ { u with out := t.out } = t

/-! ## Encoding and stepping -/

/-- R88 to R91, R80, R93: decoding the encoding of a well-formed instruction, in a state that selects its row, gives the
instruction back, with every operand; for any parameters. -/
def Obligations.DecodeOfEncodeIsTheInstruction : Prop :=
  ∀ (p : Params) (q : Selector) (i : Instr), i.wf p = true → i.selectedBy p q = true → decode p q (encode i) = i

/-- R88, R90: words written out from the encodings, and what each is. -/
def Obligations.WrittenOutWordsDecode : Prop :=
  decode Config.params Selector.reset (.word 0b10000000000000#14 .zero) = .rst ∧
  decode Config.params Selector.reset (.word 0b00010011111110#14 .zero) = .setmode .native ∧
  decode Config.params Selector.reset (.word 0b01000010101010#14 .zero) = .rxbStart ∧
  decode Config.params ⟨3, 0x7E#8, 0x40#8, false⟩ (.word 0b01000001010101#14 .zero) = .rxbEnd ∧
  decode Config.params ⟨1, 0x00#8, 0x00#8, false⟩ (.word 0b01000000001000#14 .zero) = .rxbRes 0x08#8 ∧
  decode Config.params ⟨0, 0x00#8, 0x00#8, true⟩ (.word 0b00001000001000#14 .zero) = .txsRefused 0x08#8 .zero ∧
  decode Config.params Selector.reset (.word 0b11000010101010#14 .zero) = .multiStrobe 0b110000#6 0xAA#8 .zero ∧
  decode Config.params Selector.reset (.header 0b10101010000001000000100001010101#32) = .frameHeader 0x04#8 0x08#8

/-- The model's form of R6 and R63, by DESIGN CHOICE: a step takes the first item of the input queue and leaves the rest
(log entry 4), empties the output list (log entry 3), and runs the instruction that the item decodes to in the state; an
item that is a header or a trace line runs all its events in this one step, where R6 has one event a step (log entry 5). -/
def Obligations.StepRunsTheDecodedInstruction : Prop :=
  ∀ (s : State) (x : Input) (q : List Input), s.input = x :: q →
    step s = exec (decode Config.params s.selector x) { s with input := q, out := [] }

/-- The model's form of R6, there is no step without an input event, by DESIGN CHOICE (log entry 4): with an empty input
queue a step is refused by name. -/
def Obligations.NoStepWithoutAnInputEvent : Prop :=
  ∀ s : State, s.input = [] → step s = .refused .noInputEvent

/-- The model's choice (log entry 6): a row is refused by name in a state that does not select it, and only there; `step`
decodes by the state and never meets such a row. -/
def Obligations.RowIsRefusedExactlyWhereNotSelected : Prop :=
  (∀ (i : Instr) (s : State), exec i s = .refused .caseNotSelected ↔ i.selectedBy Config.params s.selector = false) ∧
  ∀ s : State, step s ≠ .refused .caseNotSelected

/-! ## Invariants and whole-machine rules -/

/-- R36, R38: the invariant holds after reset, and `RST` establishes it from every state. -/
def Obligations.ResetEstablishesTheInvariant : Prop :=
  BlockInv Config.params State.reset ∧ ∀ s t : State, exec .rst s = .next t → BlockInv Config.params t

/-- R36, R38: every step keeps the invariant. -/
def Obligations.EveryStepKeepsTheInvariant : Prop :=
  ∀ s t : State, BlockInv Config.params s → step s = .next t → BlockInv Config.params t

/-- R163: from every state of the invariant every input item gives a next state. -/
def Obligations.EveryInputGivesANextState : Prop :=
  ∀ (s : State) (x : Input) (q : List Input), BlockInv Config.params s → s.input = x :: q → ∃ t, step s = .next t

/-- R52: the mode is switched by nothing but `SETMODE` and `RST`. -/
def Obligations.OnlySetmodeAndRstSwitchTheMode : Prop :=
  ∀ (s t : State) (w : StepWord) (r : ResultValue), w.getLsbD 13 = false → w.getLsbD 10 = false →
    exec (decode Config.params s.selector (.word w r)) s = .next t → t.mode = s.mode

/-- R63, R94: a word with at most one strobe emits at most one output event. -/
def Obligations.OneStrobeEmitsAtMostOneOutput : Prop :=
  ∀ (s t : State) (w : StepWord) (r : ResultValue), strobeCount (w.extractLsb' 8 6) ≤ 1 →
    exec (decode Config.params s.selector (.word w r)) s = .next t →
    ∃ os : List Output, os.length ≤ 1 ∧ t.out = s.out ++ os

/-- R117, R126: whatever the input, a frame that a step publishes has both markers, `L` payload bytes whose XOR is its
checksum byte, and the view of those bytes under `MODE`. -/
def Obligations.EveryPublishedFramePassedTheChecks : Prop :=
  ∀ (s t : State) (pk : Packet) (v : ResultValue), BlockInv Config.params s → step s = .next t → .frame pk v ∈ t.out →
    pk.start = 0xAA#8 ∧ pk.endMarker = 0x55#8 ∧ pk.payload.length = Config.params.L ∧
    xorAll pk.payload = pk.checksum ∧ v = deser Config.params t.mode pk.payload

/-- R38: no output event depends on what the spec leaves unspecified: the bytes of the buffers that nothing has written
(they are free values, indexed by the number of resets), and `TRES`, `TCHK`, `TBUF` while no frame is being sent. -/
def Obligations.OutputsIgnoreUnspecifiedContents : Prop :=
  ∀ (s t : State) (n : Nat) (a c : Byte) (m : Memory), BlockInv Config.params s → step s = .next t →
    ∃ u, step { s with
        resets := n
        tres := if s.tbusy then s.tres else a
        tchk := if s.tbusy then s.tchk else c
        tbuf := if s.tbusy then s.tbuf else m } = .next u ∧ u.out = t.out

/-- R31: `MODE` has no effect on the RX unit but in the `result` view of a `FRAME` event: the same RX events from states
that differ in `MODE` end in states that differ in `MODE` alone, with the same output events but for that view. -/
def Obligations.ModeOnlyAffectsTheResultView : Prop :=
  ∀ (es : List Event) (s : State) (m : Mode), (∀ e ∈ es, e.isRx = true) →
    ∃ t u, runEvents es s = .next t ∧ runEvents es { s with mode := m } = .next u ∧
      { u with mode := s.mode, out := t.out } = t ∧ u.out.map eraseView = t.out.map eraseView

/-- R62: an RX event and a TX event commute: the same final state, and the same output events of each unit. -/
def Obligations.RxAndTxEventsCommute : Prop :=
  ∀ (s : State) (x y : Event), x.isRx = true → y.isTx = true →
    (∀ t, runEvents [x, y] s = .next t → ∃ u, runEvents [y, x] s = .next u ∧ { u with out := t.out } = t ∧
      u.out.filter Output.isRx = t.out.filter Output.isRx ∧
      u.out.filter (fun o => !o.isRx) = t.out.filter fun o => !o.isRx) ∧
    (∀ u, runEvents [y, x] s = .next u → ∃ t, runEvents [x, y] s = .next t)

/-- R117: of the events, only the last byte of a good frame publishes a frame. -/
def Obligations.OnlyALastGoodBytePublishes : Prop :=
  ∀ (s t : State) (e : Event) (pk : Packet) (v : ResultValue),
    exec (decode Config.params s.selector (eventInput e)) s = .next t → t.out = s.out ++ [.frame pk v] →
    ∃ b, e = .rxb b ∧ decode Config.params s.selector (eventInput e) = .rxbLastOk b

/-! ## Headlines -/

/-- R121: `xor_all` is 0 on no bytes, splits over concatenation, does not depend on the order of the bytes, and bit `k`
of it is the parity of bit `k` over all bytes. -/
def Obligations.XorAllIsTheColumnParity : Prop :=
  xorAll [] = 0x00#8 ∧
  (∀ s t : List Byte, xorAll (s ++ t) = xorAll s ^^^ xorAll t) ∧
  (∀ s t : List Byte, s.Perm t → xorAll s = xorAll t) ∧
  ∀ (s : List Byte) (k : Nat), (xorAll s).getLsbD k = decide ((s.countP fun b => b.getLsbD k) % 2 = 1)

/-- R53, R54: byte `i` of a field in each order, and that reading the bytes back gives the bit pattern. -/
def Obligations.FieldBytesReadBack : Prop :=
  ∀ (w u : Nat), u < 2 ^ (8 * w) →
    (∀ i, i < w →
      ((serField .big w u)[i]?).map BitVec.toNat = some (u / 2 ^ (8 * (w - 1 - i)) % 256) ∧
      ((serField .little w u)[i]?).map BitVec.toNat = some (u / 2 ^ (8 * i) % 256)) ∧
    deserField .big w (serField .big w u) = u ∧ deserField .little w (serField .little w u) = u

/-- R54, R8: the value of a signed field is the two's complement reading of its bit pattern. -/
def Obligations.SignedFieldsAreTwosComplement : Prop :=
  ∀ (w u : Nat), 1 ≤ w → u < 2 ^ (8 * w) →
    fieldValue .sint w u = (BitVec.ofNat (8 * w) u).toInt ∧ fieldValue .uint w u = u ∧ fieldValue .float w u = u

/-- R57: serialising and deserialising in one mode are inverse, bit for bit, gap bytes included; across modes of
different order every field comes back with its bytes reversed and every gap byte as it was; and the image holds, inside
each field, the bytes of R53. For any parameters that R5 admits. -/
def Obligations.SerialisationIsInvertible : Prop :=
  ∀ p : Params, p.WF → ∀ (m m' : Mode),
    (∀ r : ResultValue, r.WF p →
      deser p m (ser p m r) = r ∧
      (order p m ≠ order p m' →
        (deser p m' (ser p m r)).gaps = r.gaps ∧
        (deser p m' (ser p m r)).fields =
          p.layout.zipWith (fun f u => deserField .big f.w (serField .big f.w u).reverse) r.fields)) ∧
    (∀ img : List Byte, img.length = p.L → ser p m (deser p m img) = img) ∧
    (∀ (r : ResultValue) (k i : Nat) (f : LayoutField), p.layout[k]? = some f → i < f.w →
      (ser p m r)[f.off + i]? = (serField (order p m) f.w (r.pattern k))[i]?)

/-- R147: the checksum of a Result is the same in both modes and for both values of `HOST_ORDER`. -/
def Obligations.ChecksumIgnoresByteOrder : Prop :=
  ∀ p : Params, p.WF → ∀ (r : ResultValue) (m m' : Mode) (o : ByteOrder),
    xorAll (ser p m r) = xorAll (ser { p with hostOrder := o } m' r)

/-- R122: a frame whose payload and checksum byte were changed by the error patterns `e` and `ec` is published exactly
when the XOR of `e` is `ec`, and is reported as a checksum error otherwise. -/
def Obligations.CorruptionPassesExactlyWhenErrorsCancel : Prop :=
  ∀ (s : State) (res ec : Byte) (pl e rx : List Byte), s.rpos = 0 →
    pl.length = Config.params.L → e.length = Config.params.L → rx = List.zipWith (· ^^^ ·) pl e →
    ∃ t, exec (.rxs 0xAA#8 ([res, xorAll pl ^^^ ec, 0x55#8] ++ rx)) s = .next t ∧ t.rpos = 0 ∧
      t.out = s.out ++ [if xorAll e = ec
        then .frame ⟨0xAA#8, res, xorAll pl ^^^ ec, 0x55#8, rx⟩ (deser Config.params s.mode rx)
        else .err (.checksum (xorAll pl ^^^ ec) (xorAll rx))]

/-- R122, items 1 and 2: an error in one payload byte alone, or in the checksum byte alone, changes the comparison, and
the same error in two payload bytes does not. -/
def Obligations.SingleErrorsAreSeenEqualPairsAreNot : Prop :=
  ∀ (pl : List Byte) (i j : Nat) (d : Byte), i < pl.length → j < pl.length → i ≠ j → d ≠ 0x00#8 →
    xorAll (pl.set i (pl.getD i 0 ^^^ d)) ≠ xorAll pl ∧
    xorAll pl ≠ xorAll pl ^^^ d ∧
    xorAll ((pl.set i (pl.getD i 0 ^^^ d)).set j (pl.getD j 0 ^^^ d)) = xorAll pl

/-- R128: well-formed frames back to back, received while hunting, are all published in order, each with its view, with
no error, and the unit is hunting again. -/
def Obligations.FramesBackToBackAreAllPublished : Prop :=
  ∀ (s : State) (fs : List (Byte × List Byte)), s.rpos = 0 → (∀ f ∈ fs, f.2.length = Config.params.L) →
    ∃ t, runEvents ((fs.flatMap fun f => [0xAA#8, f.1, xorAll f.2, 0x55#8] ++ f.2).map .rxb) s = .next t ∧
      t.rpos = 0 ∧
      t.out = s.out ++ fs.map fun f =>
        .frame ⟨0xAA#8, f.1, xorAll f.2, 0x55#8, f.2⟩ (deser Config.params s.mode f.2)

/-- R124: the stream form and the buffer form agree: bytes received while hunting and then a time-out give as their first
output event what the buffer form of `decode` returns; no bytes give no event, and the buffer form `TruncatedError`. -/
def Obligations.StreamFormAgreesWithBufferForm : Prop :=
  ∀ s : State, s.rpos = 0 →
    (∀ (b : Byte) (bs : List Byte), ∃ t u os, exec (.rxs b bs) s = .next t ∧ exec .rxt t = .next u ∧
      u.out = s.out ++ os ∧
      match decodeBuf Config.params s.mode (b :: bs) with
      | .framingError   => ∃ pos x, os.head? = some (.err (.framing pos x))
      | .truncatedError => ∃ pos, os.head? = some (.err (.truncated pos))
      | .checksumError  => ∃ x y, os.head? = some (.err (.checksum x y))
      | .ok res v       => ∃ pk, os.head? = some (.frame pk v) ∧ pk.resolution = res) ∧
    exec .rxt s = .next s ∧ decodeBuf Config.params s.mode [] = .truncatedError

/-- R146: round trip, in the buffer form and in the stream form, in either mode, for every Result value and every
resolution byte. -/
def Obligations.DecodeOfEncodeIsTheResult : Prop :=
  ∀ (m : Mode) (tag : Byte) (r : ResultValue), r.WF Config.params →
    decodeBuf Config.params m (encodeFrame Config.params m tag r) = .ok tag r ∧
    ∀ s : State, s.rpos = 0 → s.mode = m →
      ∃ t, runEvents ((encodeFrame Config.params m tag r).map .rxb) s = .next t ∧ t.rpos = 0 ∧
        t.out = s.out ++ [.frame
          ⟨0xAA#8, tag, xorAll (ser Config.params m r), 0x55#8, ser Config.params m r⟩ r]

/-- R149: an accepted `TXS` and then `L + 4` `TXP` events, with any RX events, `SETMODE` and `NOP` between them, hand over
exactly the bytes of `encode` under the mode of the `TXS`, in order, and leave the unit idle. -/
def Obligations.TransmissionIsTheEncodedFrame : Prop :=
  ∀ (s t : State) (res : Byte) (r : ResultValue) (es : List Event), s.tbusy = false → exec (.txs res r) s = .next t →
    (∀ e ∈ es, e.isRx = true ∨ e = .txp ∨ e = .nop ∨ ∃ m, e = .setmode m) →
    es.count .txp = Config.params.L + 4 →
    ∃ u os, runEvents es t = .next u ∧ u.out = t.out ++ os ∧
      sentBytes os = [0xAA#8, res, xorAll (ser Config.params s.mode r), 0x55#8] ++ ser Config.params s.mode r ∧
      u.tbusy = false ∧ u.tpos = 0

/-- R86, R140, the test vectors S6a and S6b: the document's concrete scenario on the instance *REF*: 64 zones with distance
1234, ambient pattern `0x41280000` and signal pattern `0x41A20000` give the checksum `0x40` in both modes, the whole frame
in big-endian mode and the first 17 bytes of the frame in host-native mode. That the two patterns are 10.5 and 20.25 is
binary32, which the spec takes from general knowledge (R67, G1; PRESUMED, log entry 16); the statement is about the
patterns. -/
def Obligations.DocumentScenarioHasItsChecksum : Prop :=
  ∀ (zone img : List Byte) (r : ResultValue),
    zone = [0x01#8, 0x04#8, 0xD2#8, 0x00#8, 0x41#8, 0x28#8, 0x00#8, 0x00#8, 0x41#8, 0xA2#8, 0x00#8, 0x00#8] →
    img = 0x40#8 :: (List.replicate 64 zone).flatten → r = deser Reference.ref .big img →
    encodeFrame Reference.ref .big 0x08#8 r = [0xAA#8, 0x08#8, 0x40#8, 0x55#8] ++ img ∧
    (encodeFrame Reference.ref .native 0x08#8 r).take 17 =
      [0xAA#8, 0x08#8, 0x40#8, 0x55#8, 0x40#8, 0x01#8, 0xD2#8, 0x04#8, 0x00#8, 0x00#8, 0x00#8, 0x28#8, 0x41#8, 0x00#8,
        0x00#8, 0xA2#8, 0x41#8]
end

