-- ==== Sys2Proof/Laws/Config.lean ====
section
/-! SUPPORT. The instance's parameters are parameters that R5 admits. -/

namespace Sys2Proof

theorem Config.params_L_pos : 1 ≤ Config.params.L := Nat.succ_le_succ (Nat.zero_le _)

theorem Config.params_WF : Config.params.WF := by
  refine ⟨Config.params_L_pos, ?_⟩
  unfold Config.params
  dsimp only
  split
  · assumption
  · exact ⟨by simp, .nil⟩

theorem Params.mem_gapOffsets (p : Params) (o : Nat) :
    o ∈ p.gapOffsets ↔ o < p.L ∧ ∀ f ∈ p.layout, ¬ f.Covers o := by
  simp [Params.gapOffsets]

end Sys2Proof
end

