-- ==== Sys2Proof/Laws/Memory.lean ====
section
/-! SUPPORT. The payload buffers: read after write, and every operation keeps the canonical form. -/

namespace Sys2Proof.Machine.Memory

@[simp] theorem read_write_same (m : Memory) (a : Nat) (b : Byte) : (m.write a b).read a = some b := by
  induction m with
  | nil => simp [write, read]
  | cons c m ih =>
    obtain ⟨k, v⟩ := c
    simp only [write]
    split
    · simp [read]
    · split
      · simp [read]
      · simp [read, ih, Ne.symm ‹¬a = k›]

theorem read_write_other (m : Memory) (a a' : Nat) (b : Byte) (h : a' ≠ a) : (m.write a b).read a' = m.read a' := by
  induction m with
  | nil => simp [write, read, h.symm]
  | cons c m ih =>
    obtain ⟨k, v⟩ := c
    simp only [write]
    split
    · simp [read, h.symm]
    · split
      · subst ‹a = k›; simp [read, h.symm]
      · simp [read, ih]

theorem read_write (m : Memory) (a a' : Nat) (b : Byte) :
    (m.write a b).read a' = if a' = a then some b else m.read a' := by
  split
  · subst ‹a' = a›; simp
  · exact read_write_other m a a' b ‹_›

theorem mem_write {m : Memory} {a : Nat} {b : Byte} {c : Host.Cell} (h : c ∈ m.write a b) : c = (a, b) ∨ c ∈ m := by
  induction m with
  | nil => simpa [write] using h
  | cons d m ih =>
    obtain ⟨k, v⟩ := d
    simp only [write] at h
    split at h
    · simpa using h
    · split at h
      · exact (List.mem_cons.mp h).imp id (List.mem_cons_of_mem _)
      · rcases List.mem_cons.mp h with h | h
        · exact .inr (h ▸ List.mem_cons_self)
        · exact (ih h).imp id (List.mem_cons_of_mem _)

/-- Writing a byte keeps the canonical form. -/
theorem write_WF {m : Memory} (hm : m.WF) (a : Nat) (b : Byte) : (m.write a b).WF := by
  induction m with
  | nil => exact List.pairwise_singleton _ _
  | cons d m ih =>
    obtain ⟨k, v⟩ := d
    obtain ⟨hk, hr⟩ := List.pairwise_cons.mp hm
    simp only [write]
    split
    · refine List.pairwise_cons.mpr ⟨fun c hc => ?_, List.pairwise_cons.mpr ⟨hk, hr⟩⟩
      rcases List.mem_cons.mp hc with rfl | hc
      · assumption
      · have := hk c hc; simp only at this ⊢; omega
    · split
      · subst ‹a = k›; exact List.pairwise_cons.mpr ⟨hk, hr⟩
      · refine List.pairwise_cons.mpr ⟨fun c hc => ?_, ih hr⟩
        rcases mem_write hc with rfl | hc
        · simp only; omega
        · exact hk c hc

theorem ofBytesFrom_lower {a : Nat} {bs : List Byte} {c : Host.Cell} (h : c ∈ ofBytesFrom a bs) : a ≤ c.1 := by
  induction bs generalizing a with
  | nil => simp [ofBytesFrom] at h
  | cons b bs ih =>
    rcases List.mem_cons.mp h with rfl | h
    · exact Nat.le_refl _
    · have := ih h; omega

theorem ofBytesFrom_upper {a : Nat} {bs : List Byte} {c : Host.Cell} (h : c ∈ ofBytesFrom a bs) :
    c.1 < a + bs.length := by
  induction bs generalizing a with
  | nil => simp [ofBytesFrom] at h
  | cons b bs ih =>
    rcases List.mem_cons.mp h with rfl | h
    · simp
    · have := ih h; simp only [List.length_cons]; omega

/-- Writing a whole buffer gives the canonical form. -/
theorem ofBytesFrom_WF (a : Nat) (bs : List Byte) : (ofBytesFrom a bs).WF := by
  induction bs generalizing a with
  | nil => exact .nil
  | cons b bs ih => exact List.pairwise_cons.mpr ⟨fun c hc => ofBytesFrom_lower hc, ih _⟩

theorem read_ofBytesFrom (a : Nat) (bs : List Byte) (i : Nat) :
    (ofBytesFrom a bs).read i = if a ≤ i then bs[i - a]? else none := by
  induction bs generalizing a with
  | nil => simp [ofBytesFrom, read]
  | cons b bs ih =>
    simp only [ofBytesFrom, read, ih]
    split
    · subst ‹a = i›; simp
    · split
      · have : i - a = (i - (a + 1)) + 1 := by omega
        simp [this, show a ≤ i by omega]
      · rw [if_neg (by omega)]

@[simp] theorem read_nil (a : Nat) : Memory.read [] a = none := rfl

end Sys2Proof.Machine.Memory
end

