-- ==== Sys2Proof/Laws/State.lean ====
section
/-! SUPPORT. What each named update of the state does to each field, one lemma a field, true by `rfl`. -/

namespace Sys2Proof.Machine

@[simp] theorem emit_rpos (o : Output) (s : State) : (emit o s).rpos = s.rpos := rfl
@[simp] theorem emit_rres (o : Output) (s : State) : (emit o s).rres = s.rres := rfl
@[simp] theorem emit_rchk (o : Output) (s : State) : (emit o s).rchk = s.rchk := rfl
@[simp] theorem emit_racc (o : Output) (s : State) : (emit o s).racc = s.racc := rfl
@[simp] theorem emit_rbuf (o : Output) (s : State) : (emit o s).rbuf = s.rbuf := rfl
@[simp] theorem emit_tbusy (o : Output) (s : State) : (emit o s).tbusy = s.tbusy := rfl
@[simp] theorem emit_tpos (o : Output) (s : State) : (emit o s).tpos = s.tpos := rfl
@[simp] theorem emit_tres (o : Output) (s : State) : (emit o s).tres = s.tres := rfl
@[simp] theorem emit_tchk (o : Output) (s : State) : (emit o s).tchk = s.tchk := rfl
@[simp] theorem emit_tbuf (o : Output) (s : State) : (emit o s).tbuf = s.tbuf := rfl
@[simp] theorem emit_mode (o : Output) (s : State) : (emit o s).mode = s.mode := rfl
@[simp] theorem emit_input (o : Output) (s : State) : (emit o s).input = s.input := rfl
@[simp] theorem emit_out (o : Output) (s : State) : (emit o s).out = s.out ++ [o] := rfl
@[simp] theorem emit_resets (o : Output) (s : State) : (emit o s).resets = s.resets := rfl

@[simp] theorem raise_rpos (e : DecodeErr) (s : State) : (raise e s).rpos = 0 := rfl
@[simp] theorem raise_rres (e : DecodeErr) (s : State) : (raise e s).rres = s.rres := rfl
@[simp] theorem raise_rchk (e : DecodeErr) (s : State) : (raise e s).rchk = s.rchk := rfl
@[simp] theorem raise_racc (e : DecodeErr) (s : State) : (raise e s).racc = s.racc := rfl
@[simp] theorem raise_rbuf (e : DecodeErr) (s : State) : (raise e s).rbuf = s.rbuf := rfl
@[simp] theorem raise_tbusy (e : DecodeErr) (s : State) : (raise e s).tbusy = s.tbusy := rfl
@[simp] theorem raise_tpos (e : DecodeErr) (s : State) : (raise e s).tpos = s.tpos := rfl
@[simp] theorem raise_tres (e : DecodeErr) (s : State) : (raise e s).tres = s.tres := rfl
@[simp] theorem raise_tchk (e : DecodeErr) (s : State) : (raise e s).tchk = s.tchk := rfl
@[simp] theorem raise_tbuf (e : DecodeErr) (s : State) : (raise e s).tbuf = s.tbuf := rfl
@[simp] theorem raise_mode (e : DecodeErr) (s : State) : (raise e s).mode = s.mode := rfl
@[simp] theorem raise_input (e : DecodeErr) (s : State) : (raise e s).input = s.input := rfl
@[simp] theorem raise_out (e : DecodeErr) (s : State) : (raise e s).out = s.out ++ [.err e] := rfl
@[simp] theorem raise_resets (e : DecodeErr) (s : State) : (raise e s).resets = s.resets := rfl

@[simp] theorem storePayload_rpos (a : Nat) (b : Byte) (s : State) : (storePayload a b s).rpos = s.rpos := rfl
@[simp] theorem storePayload_rres (a : Nat) (b : Byte) (s : State) : (storePayload a b s).rres = s.rres := rfl
@[simp] theorem storePayload_rchk (a : Nat) (b : Byte) (s : State) : (storePayload a b s).rchk = s.rchk := rfl
@[simp] theorem storePayload_racc (a : Nat) (b : Byte) (s : State) : (storePayload a b s).racc = s.racc ^^^ b := rfl
@[simp] theorem storePayload_rbuf (a : Nat) (b : Byte) (s : State) : (storePayload a b s).rbuf = s.rbuf.write a b := rfl
@[simp] theorem storePayload_tbusy (a : Nat) (b : Byte) (s : State) : (storePayload a b s).tbusy = s.tbusy := rfl
@[simp] theorem storePayload_tpos (a : Nat) (b : Byte) (s : State) : (storePayload a b s).tpos = s.tpos := rfl
@[simp] theorem storePayload_tres (a : Nat) (b : Byte) (s : State) : (storePayload a b s).tres = s.tres := rfl
@[simp] theorem storePayload_tchk (a : Nat) (b : Byte) (s : State) : (storePayload a b s).tchk = s.tchk := rfl
@[simp] theorem storePayload_tbuf (a : Nat) (b : Byte) (s : State) : (storePayload a b s).tbuf = s.tbuf := rfl
@[simp] theorem storePayload_mode (a : Nat) (b : Byte) (s : State) : (storePayload a b s).mode = s.mode := rfl
@[simp] theorem storePayload_input (a : Nat) (b : Byte) (s : State) : (storePayload a b s).input = s.input := rfl
@[simp] theorem storePayload_out (a : Nat) (b : Byte) (s : State) : (storePayload a b s).out = s.out := rfl
@[simp] theorem storePayload_resets (a : Nat) (b : Byte) (s : State) : (storePayload a b s).resets = s.resets := rfl

@[simp] theorem txOpen_rpos (s : State) : (txOpen s).rpos = s.rpos := rfl
@[simp] theorem txOpen_rres (s : State) : (txOpen s).rres = s.rres := rfl
@[simp] theorem txOpen_rchk (s : State) : (txOpen s).rchk = s.rchk := rfl
@[simp] theorem txOpen_racc (s : State) : (txOpen s).racc = s.racc := rfl
@[simp] theorem txOpen_rbuf (s : State) : (txOpen s).rbuf = s.rbuf := rfl
@[simp] theorem txOpen_tbusy (s : State) : (txOpen s).tbusy = true := rfl
@[simp] theorem txOpen_tpos (s : State) : (txOpen s).tpos = 0 := rfl
@[simp] theorem txOpen_tres (s : State) : (txOpen s).tres = s.tres := rfl
@[simp] theorem txOpen_tchk (s : State) : (txOpen s).tchk = s.tchk := rfl
@[simp] theorem txOpen_tbuf (s : State) : (txOpen s).tbuf = s.tbuf := rfl
@[simp] theorem txOpen_mode (s : State) : (txOpen s).mode = s.mode := rfl
@[simp] theorem txOpen_input (s : State) : (txOpen s).input = s.input := rfl
@[simp] theorem txOpen_out (s : State) : (txOpen s).out = s.out := rfl
@[simp] theorem txOpen_resets (s : State) : (txOpen s).resets = s.resets := rfl

@[simp] theorem startEffect_rpos (s : State) : (startEffect s).rpos = 1 := rfl
@[simp] theorem startEffect_rres (s : State) : (startEffect s).rres = s.rres := rfl
@[simp] theorem startEffect_rchk (s : State) : (startEffect s).rchk = s.rchk := rfl
@[simp] theorem startEffect_racc (s : State) : (startEffect s).racc = s.racc := rfl
@[simp] theorem startEffect_rbuf (s : State) : (startEffect s).rbuf = s.rbuf := rfl
@[simp] theorem startEffect_tbusy (s : State) : (startEffect s).tbusy = s.tbusy := rfl
@[simp] theorem startEffect_tpos (s : State) : (startEffect s).tpos = s.tpos := rfl
@[simp] theorem startEffect_tres (s : State) : (startEffect s).tres = s.tres := rfl
@[simp] theorem startEffect_tchk (s : State) : (startEffect s).tchk = s.tchk := rfl
@[simp] theorem startEffect_tbuf (s : State) : (startEffect s).tbuf = s.tbuf := rfl
@[simp] theorem startEffect_mode (s : State) : (startEffect s).mode = s.mode := rfl
@[simp] theorem startEffect_input (s : State) : (startEffect s).input = s.input := rfl
@[simp] theorem startEffect_out (s : State) : (startEffect s).out = s.out := rfl
@[simp] theorem startEffect_resets (s : State) : (startEffect s).resets = s.resets := rfl

@[simp] theorem resEffect_rpos (b : Byte) (s : State) : (resEffect b s).rpos = 2 := rfl
@[simp] theorem resEffect_rres (b : Byte) (s : State) : (resEffect b s).rres = b := rfl
@[simp] theorem resEffect_rchk (b : Byte) (s : State) : (resEffect b s).rchk = s.rchk := rfl
@[simp] theorem resEffect_racc (b : Byte) (s : State) : (resEffect b s).racc = s.racc := rfl
@[simp] theorem resEffect_rbuf (b : Byte) (s : State) : (resEffect b s).rbuf = s.rbuf := rfl
@[simp] theorem resEffect_tbusy (b : Byte) (s : State) : (resEffect b s).tbusy = s.tbusy := rfl
@[simp] theorem resEffect_tpos (b : Byte) (s : State) : (resEffect b s).tpos = s.tpos := rfl
@[simp] theorem resEffect_tres (b : Byte) (s : State) : (resEffect b s).tres = s.tres := rfl
@[simp] theorem resEffect_tchk (b : Byte) (s : State) : (resEffect b s).tchk = s.tchk := rfl
@[simp] theorem resEffect_tbuf (b : Byte) (s : State) : (resEffect b s).tbuf = s.tbuf := rfl
@[simp] theorem resEffect_mode (b : Byte) (s : State) : (resEffect b s).mode = s.mode := rfl
@[simp] theorem resEffect_input (b : Byte) (s : State) : (resEffect b s).input = s.input := rfl
@[simp] theorem resEffect_out (b : Byte) (s : State) : (resEffect b s).out = s.out := rfl
@[simp] theorem resEffect_resets (b : Byte) (s : State) : (resEffect b s).resets = s.resets := rfl

@[simp] theorem chkEffect_rpos (b : Byte) (s : State) : (chkEffect b s).rpos = 3 := rfl
@[simp] theorem chkEffect_rres (b : Byte) (s : State) : (chkEffect b s).rres = s.rres := rfl
@[simp] theorem chkEffect_rchk (b : Byte) (s : State) : (chkEffect b s).rchk = b := rfl
@[simp] theorem chkEffect_racc (b : Byte) (s : State) : (chkEffect b s).racc = s.racc := rfl
@[simp] theorem chkEffect_rbuf (b : Byte) (s : State) : (chkEffect b s).rbuf = s.rbuf := rfl
@[simp] theorem chkEffect_tbusy (b : Byte) (s : State) : (chkEffect b s).tbusy = s.tbusy := rfl
@[simp] theorem chkEffect_tpos (b : Byte) (s : State) : (chkEffect b s).tpos = s.tpos := rfl
@[simp] theorem chkEffect_tres (b : Byte) (s : State) : (chkEffect b s).tres = s.tres := rfl
@[simp] theorem chkEffect_tchk (b : Byte) (s : State) : (chkEffect b s).tchk = s.tchk := rfl
@[simp] theorem chkEffect_tbuf (b : Byte) (s : State) : (chkEffect b s).tbuf = s.tbuf := rfl
@[simp] theorem chkEffect_mode (b : Byte) (s : State) : (chkEffect b s).mode = s.mode := rfl
@[simp] theorem chkEffect_input (b : Byte) (s : State) : (chkEffect b s).input = s.input := rfl
@[simp] theorem chkEffect_out (b : Byte) (s : State) : (chkEffect b s).out = s.out := rfl
@[simp] theorem chkEffect_resets (b : Byte) (s : State) : (chkEffect b s).resets = s.resets := rfl

@[simp] theorem endEffect_rpos (s : State) : (endEffect s).rpos = 4 := rfl
@[simp] theorem endEffect_rres (s : State) : (endEffect s).rres = s.rres := rfl
@[simp] theorem endEffect_rchk (s : State) : (endEffect s).rchk = s.rchk := rfl
@[simp] theorem endEffect_racc (s : State) : (endEffect s).racc = 0x00#8 := rfl
@[simp] theorem endEffect_rbuf (s : State) : (endEffect s).rbuf = s.rbuf := rfl
@[simp] theorem endEffect_tbusy (s : State) : (endEffect s).tbusy = s.tbusy := rfl
@[simp] theorem endEffect_tpos (s : State) : (endEffect s).tpos = s.tpos := rfl
@[simp] theorem endEffect_tres (s : State) : (endEffect s).tres = s.tres := rfl
@[simp] theorem endEffect_tchk (s : State) : (endEffect s).tchk = s.tchk := rfl
@[simp] theorem endEffect_tbuf (s : State) : (endEffect s).tbuf = s.tbuf := rfl
@[simp] theorem endEffect_mode (s : State) : (endEffect s).mode = s.mode := rfl
@[simp] theorem endEffect_input (s : State) : (endEffect s).input = s.input := rfl
@[simp] theorem endEffect_out (s : State) : (endEffect s).out = s.out := rfl
@[simp] theorem endEffect_resets (s : State) : (endEffect s).resets = s.resets := rfl

@[simp] theorem payEffect_rpos (b : Byte) (s : State) : (payEffect b s).rpos = s.rpos + 1 := rfl
@[simp] theorem payEffect_rres (b : Byte) (s : State) : (payEffect b s).rres = s.rres := rfl
@[simp] theorem payEffect_rchk (b : Byte) (s : State) : (payEffect b s).rchk = s.rchk := rfl
@[simp] theorem payEffect_racc (b : Byte) (s : State) : (payEffect b s).racc = s.racc ^^^ b := rfl
@[simp] theorem payEffect_rbuf (b : Byte) (s : State) : (payEffect b s).rbuf = s.rbuf.write (s.rpos - Config.headerLen) b := rfl
@[simp] theorem payEffect_tbusy (b : Byte) (s : State) : (payEffect b s).tbusy = s.tbusy := rfl
@[simp] theorem payEffect_tpos (b : Byte) (s : State) : (payEffect b s).tpos = s.tpos := rfl
@[simp] theorem payEffect_tres (b : Byte) (s : State) : (payEffect b s).tres = s.tres := rfl
@[simp] theorem payEffect_tchk (b : Byte) (s : State) : (payEffect b s).tchk = s.tchk := rfl
@[simp] theorem payEffect_tbuf (b : Byte) (s : State) : (payEffect b s).tbuf = s.tbuf := rfl
@[simp] theorem payEffect_mode (b : Byte) (s : State) : (payEffect b s).mode = s.mode := rfl
@[simp] theorem payEffect_input (b : Byte) (s : State) : (payEffect b s).input = s.input := rfl
@[simp] theorem payEffect_out (b : Byte) (s : State) : (payEffect b s).out = s.out := rfl
@[simp] theorem payEffect_resets (b : Byte) (s : State) : (payEffect b s).resets = s.resets := rfl

@[simp] theorem publish_rpos (p : Params) (s : State) : (publish p s).rpos = 0 := rfl
@[simp] theorem publish_rres (p : Params) (s : State) : (publish p s).rres = s.rres := rfl
@[simp] theorem publish_rchk (p : Params) (s : State) : (publish p s).rchk = s.rchk := rfl
@[simp] theorem publish_racc (p : Params) (s : State) : (publish p s).racc = s.racc := rfl
@[simp] theorem publish_rbuf (p : Params) (s : State) : (publish p s).rbuf = s.rbuf := rfl
@[simp] theorem publish_tbusy (p : Params) (s : State) : (publish p s).tbusy = s.tbusy := rfl
@[simp] theorem publish_tpos (p : Params) (s : State) : (publish p s).tpos = s.tpos := rfl
@[simp] theorem publish_tres (p : Params) (s : State) : (publish p s).tres = s.tres := rfl
@[simp] theorem publish_tchk (p : Params) (s : State) : (publish p s).tchk = s.tchk := rfl
@[simp] theorem publish_tbuf (p : Params) (s : State) : (publish p s).tbuf = s.tbuf := rfl
@[simp] theorem publish_mode (p : Params) (s : State) : (publish p s).mode = s.mode := rfl
@[simp] theorem publish_input (p : Params) (s : State) : (publish p s).input = s.input := rfl
@[simp] theorem publish_out (p : Params) (s : State) : (publish p s).out = s.out ++ [.frame (rxPacket s (rbufBytes s p.L)) (deser p s.mode (rbufBytes s p.L))] := rfl
@[simp] theorem publish_resets (p : Params) (s : State) : (publish p s).resets = s.resets := rfl

@[simp] theorem txLatch_rpos (p : Params) (res : Byte) (r : ResultValue) (s : State) : (txLatch p res r s).rpos = s.rpos := rfl
@[simp] theorem txLatch_rres (p : Params) (res : Byte) (r : ResultValue) (s : State) : (txLatch p res r s).rres = s.rres := rfl
@[simp] theorem txLatch_rchk (p : Params) (res : Byte) (r : ResultValue) (s : State) : (txLatch p res r s).rchk = s.rchk := rfl
@[simp] theorem txLatch_racc (p : Params) (res : Byte) (r : ResultValue) (s : State) : (txLatch p res r s).racc = s.racc := rfl
@[simp] theorem txLatch_rbuf (p : Params) (res : Byte) (r : ResultValue) (s : State) : (txLatch p res r s).rbuf = s.rbuf := rfl
@[simp] theorem txLatch_tbusy (p : Params) (res : Byte) (r : ResultValue) (s : State) : (txLatch p res r s).tbusy = true := rfl
@[simp] theorem txLatch_tpos (p : Params) (res : Byte) (r : ResultValue) (s : State) : (txLatch p res r s).tpos = 0 := rfl
@[simp] theorem txLatch_tres (p : Params) (res : Byte) (r : ResultValue) (s : State) : (txLatch p res r s).tres = res := rfl
@[simp] theorem txLatch_tchk (p : Params) (res : Byte) (r : ResultValue) (s : State) : (txLatch p res r s).tchk = xorAll (ser p s.mode r) := rfl
@[simp] theorem txLatch_tbuf (p : Params) (res : Byte) (r : ResultValue) (s : State) : (txLatch p res r s).tbuf = Memory.ofBytesFrom 0 (ser p s.mode r) := rfl
@[simp] theorem txLatch_mode (p : Params) (res : Byte) (r : ResultValue) (s : State) : (txLatch p res r s).mode = s.mode := rfl
@[simp] theorem txLatch_input (p : Params) (res : Byte) (r : ResultValue) (s : State) : (txLatch p res r s).input = s.input := rfl
@[simp] theorem txLatch_out (p : Params) (res : Byte) (r : ResultValue) (s : State) : (txLatch p res r s).out = s.out := rfl
@[simp] theorem txLatch_resets (p : Params) (res : Byte) (r : ResultValue) (s : State) : (txLatch p res r s).resets = s.resets := rfl

@[simp] theorem rstEffect_rpos (s : State) : (rstEffect s).rpos = 0 := rfl
@[simp] theorem rstEffect_rres (s : State) : (rstEffect s).rres = 0x00#8 := rfl
@[simp] theorem rstEffect_rchk (s : State) : (rstEffect s).rchk = 0x00#8 := rfl
@[simp] theorem rstEffect_racc (s : State) : (rstEffect s).racc = 0x00#8 := rfl
@[simp] theorem rstEffect_rbuf (s : State) : (rstEffect s).rbuf = [] := rfl
@[simp] theorem rstEffect_tbusy (s : State) : (rstEffect s).tbusy = false := rfl
@[simp] theorem rstEffect_tpos (s : State) : (rstEffect s).tpos = 0 := rfl
@[simp] theorem rstEffect_tres (s : State) : (rstEffect s).tres = Config.freeTres s.resets := rfl
@[simp] theorem rstEffect_tchk (s : State) : (rstEffect s).tchk = Config.freeTchk s.resets := rfl
@[simp] theorem rstEffect_tbuf (s : State) : (rstEffect s).tbuf = [] := rfl
@[simp] theorem rstEffect_mode (s : State) : (rstEffect s).mode = .big := rfl
@[simp] theorem rstEffect_input (s : State) : (rstEffect s).input = s.input := rfl
@[simp] theorem rstEffect_out (s : State) : (rstEffect s).out = s.out := rfl
@[simp] theorem rstEffect_resets (s : State) : (rstEffect s).resets = s.resets + 1 := rfl

@[simp] theorem setmodeEffect_rpos (m : Mode) (s : State) : (setmodeEffect m s).rpos = s.rpos := rfl
@[simp] theorem setmodeEffect_rres (m : Mode) (s : State) : (setmodeEffect m s).rres = s.rres := rfl
@[simp] theorem setmodeEffect_rchk (m : Mode) (s : State) : (setmodeEffect m s).rchk = s.rchk := rfl
@[simp] theorem setmodeEffect_racc (m : Mode) (s : State) : (setmodeEffect m s).racc = s.racc := rfl
@[simp] theorem setmodeEffect_rbuf (m : Mode) (s : State) : (setmodeEffect m s).rbuf = s.rbuf := rfl
@[simp] theorem setmodeEffect_tbusy (m : Mode) (s : State) : (setmodeEffect m s).tbusy = s.tbusy := rfl
@[simp] theorem setmodeEffect_tpos (m : Mode) (s : State) : (setmodeEffect m s).tpos = s.tpos := rfl
@[simp] theorem setmodeEffect_tres (m : Mode) (s : State) : (setmodeEffect m s).tres = s.tres := rfl
@[simp] theorem setmodeEffect_tchk (m : Mode) (s : State) : (setmodeEffect m s).tchk = s.tchk := rfl
@[simp] theorem setmodeEffect_tbuf (m : Mode) (s : State) : (setmodeEffect m s).tbuf = s.tbuf := rfl
@[simp] theorem setmodeEffect_mode (m : Mode) (s : State) : (setmodeEffect m s).mode = m := rfl
@[simp] theorem setmodeEffect_input (m : Mode) (s : State) : (setmodeEffect m s).input = s.input := rfl
@[simp] theorem setmodeEffect_out (m : Mode) (s : State) : (setmodeEffect m s).out = s.out := rfl
@[simp] theorem setmodeEffect_resets (m : Mode) (s : State) : (setmodeEffect m s).resets = s.resets := rfl

@[simp] theorem State.accept_rpos (q : List Input) (s : State) : (s.accept q).rpos = s.rpos := rfl
@[simp] theorem State.accept_rres (q : List Input) (s : State) : (s.accept q).rres = s.rres := rfl
@[simp] theorem State.accept_rchk (q : List Input) (s : State) : (s.accept q).rchk = s.rchk := rfl
@[simp] theorem State.accept_racc (q : List Input) (s : State) : (s.accept q).racc = s.racc := rfl
@[simp] theorem State.accept_rbuf (q : List Input) (s : State) : (s.accept q).rbuf = s.rbuf := rfl
@[simp] theorem State.accept_tbusy (q : List Input) (s : State) : (s.accept q).tbusy = s.tbusy := rfl
@[simp] theorem State.accept_tpos (q : List Input) (s : State) : (s.accept q).tpos = s.tpos := rfl
@[simp] theorem State.accept_tres (q : List Input) (s : State) : (s.accept q).tres = s.tres := rfl
@[simp] theorem State.accept_tchk (q : List Input) (s : State) : (s.accept q).tchk = s.tchk := rfl
@[simp] theorem State.accept_tbuf (q : List Input) (s : State) : (s.accept q).tbuf = s.tbuf := rfl
@[simp] theorem State.accept_mode (q : List Input) (s : State) : (s.accept q).mode = s.mode := rfl
@[simp] theorem State.accept_input (q : List Input) (s : State) : (s.accept q).input = q := rfl
@[simp] theorem State.accept_out (q : List Input) (s : State) : (s.accept q).out = [] := rfl
@[simp] theorem State.accept_resets (q : List Input) (s : State) : (s.accept q).resets = s.resets := rfl

/-! The remaining effects are one call of an update above. -/

@[simp] theorem junkEffect_eq (b : Byte) (s : State) : junkEffect b s = raise (.framing 0 b) s := rfl
@[simp] theorem badendEffect_eq (b : Byte) (s : State) : badendEffect b s = raise (.framing 3 b) s := rfl
@[simp] theorem lastOkEffect_eq (p : Params) (b : Byte) (s : State) :
    lastOkEffect p b s = publish p (storePayload (p.L - 1) b s) := rfl
@[simp] theorem lastBadEffect_eq (p : Params) (b : Byte) (s : State) :
    lastBadEffect p b s = raise (.checksum s.rchk (s.racc ^^^ b)) (storePayload (p.L - 1) b s) := rfl
@[simp] theorem txRefuse_eq (s : State) : txRefuse s = emit .txRefused s := rfl

/-! `TXP` moves only `TPOS` and `TBUSY` (R143). -/

@[simp] theorem txAdvance_rpos (p : Params) (s : State) : (txAdvance p s).rpos = s.rpos := by
  unfold txAdvance; split <;> rfl
@[simp] theorem txAdvance_rres (p : Params) (s : State) : (txAdvance p s).rres = s.rres := by
  unfold txAdvance; split <;> rfl
@[simp] theorem txAdvance_rchk (p : Params) (s : State) : (txAdvance p s).rchk = s.rchk := by
  unfold txAdvance; split <;> rfl
@[simp] theorem txAdvance_racc (p : Params) (s : State) : (txAdvance p s).racc = s.racc := by
  unfold txAdvance; split <;> rfl
@[simp] theorem txAdvance_rbuf (p : Params) (s : State) : (txAdvance p s).rbuf = s.rbuf := by
  unfold txAdvance; split <;> rfl
@[simp] theorem txAdvance_tres (p : Params) (s : State) : (txAdvance p s).tres = s.tres := by
  unfold txAdvance; split <;> rfl
@[simp] theorem txAdvance_tchk (p : Params) (s : State) : (txAdvance p s).tchk = s.tchk := by
  unfold txAdvance; split <;> rfl
@[simp] theorem txAdvance_tbuf (p : Params) (s : State) : (txAdvance p s).tbuf = s.tbuf := by
  unfold txAdvance; split <;> rfl
@[simp] theorem txAdvance_mode (p : Params) (s : State) : (txAdvance p s).mode = s.mode := by
  unfold txAdvance; split <;> rfl
@[simp] theorem txAdvance_input (p : Params) (s : State) : (txAdvance p s).input = s.input := by
  unfold txAdvance; split <;> rfl
@[simp] theorem txAdvance_out (p : Params) (s : State) : (txAdvance p s).out = s.out := by
  unfold txAdvance; split <;> rfl
@[simp] theorem txAdvance_resets (p : Params) (s : State) : (txAdvance p s).resets = s.resets := by
  unfold txAdvance; split <;> rfl

theorem txAdvance_tpos (p : Params) (s : State) : (txAdvance p s).tpos = if s.tpos = p.L + 3 then 0 else s.tpos + 1 := by
  unfold txAdvance; split <;> rfl

theorem txAdvance_tbusy (p : Params) (s : State) :
    (txAdvance p s).tbusy = if s.tpos = p.L + 3 then false else s.tbusy := by
  unfold txAdvance; split <;> rfl

/-! The selector follows the four registers it copies. -/

@[simp] theorem selector_rpos (s : State) : s.selector.rpos = s.rpos := rfl
@[simp] theorem selector_racc (s : State) : s.selector.racc = s.racc := rfl
@[simp] theorem selector_rchk (s : State) : s.selector.rchk = s.rchk := rfl
@[simp] theorem selector_tbusy (s : State) : s.selector.tbusy = s.tbusy := rfl
@[simp] theorem selector_accept (q : List Input) (s : State) : (s.accept q).selector = s.selector := rfl
@[simp] theorem selector_reset : State.reset.selector = Selector.reset := rfl

end Sys2Proof.Machine
end

