-- ==== Sys2Proof/Laws/Ops.lean ====
section
/-! SUPPORT. One lemma for each shared operation: everything it can answer. -/

namespace Sys2Proof.Machine

/-! ## Sequencing and selection -/

@[simp] theorem andThen_next (s : State) (f : State → Host.Outcome State Fault Refusal) : andThen (.next s) f = f s := rfl

theorem andThen_eq_next {o : Host.Outcome State Fault Refusal} {f : State → Host.Outcome State Fault Refusal} {t : State} :
    andThen o f = .next t ↔ ∃ s, o = .next s ∧ f s = .next t := by
  cases o <;> simp [andThen]

theorem andThen_assoc (o : Host.Outcome State Fault Refusal) (f g : State → Host.Outcome State Fault Refusal) :
    andThen (andThen o f) g = andThen o fun s => andThen (f s) g := by
  cases o <;> rfl

theorem whenCase_eq_next {p : Params} {c : RxCase} {b : Byte} {s t : State} {f : State → State} :
    whenCase p c b s f = .next t ↔ rxCase p s.selector b = c ∧ t = f s := by
  unfold whenCase
  split <;> simp_all [eq_comm]

theorem whenCase_refused {p : Params} {c : RxCase} {b : Byte} {s : State} {f : State → State}
    (h : rxCase p s.selector b ≠ c) : whenCase p c b s f = .refused .caseNotSelected := by
  simp [whenCase, h]

theorem whenBusy_self (s : State) (o : Host.Outcome State Fault Refusal) : whenBusy s.tbusy s o = o := by
  simp [whenBusy]

theorem whenBusy_eq_next {v : Bool} {s t : State} {o : Host.Outcome State Fault Refusal} :
    whenBusy v s o = .next t ↔ s.tbusy = v ∧ o = .next t := by
  unfold whenBusy
  split <;> simp_all

@[simp] theorem events_nil (p : Params) (s : State) : events p [] s = .next s := rfl

@[simp] theorem events_cons (p : Params) (e : Event) (es : List Event) (s : State) :
    events p (e :: es) s = andThen (event p e s) (events p es) := rfl

theorem events_append (p : Params) (es fs : List Event) (s : State) :
    events p (es ++ fs) s = andThen (events p es s) (events p fs) := by
  induction es generalizing s with
  | nil => rfl
  | cons e es ih =>
    simp only [List.cons_append, events_cons, andThen_assoc]
    congr 1
    funext t
    exact ih t

/-! ## The RX unit -/

/-- R90, R110: what selects each sub-case. -/
theorem rxCase_cases (p : Params) (q : Selector) (b : Byte) :
    (q.rpos = 0 ∧ b = Config.startMarker ∧ rxCase p q b = .start) ∨
    (q.rpos = 0 ∧ b ≠ Config.startMarker ∧ rxCase p q b = .junk) ∨
    (q.rpos = 1 ∧ rxCase p q b = .res) ∨
    (q.rpos = 2 ∧ rxCase p q b = .chk) ∨
    (q.rpos = 3 ∧ b = Config.endMarker ∧ rxCase p q b = .endOk) ∨
    (q.rpos = 3 ∧ b ≠ Config.endMarker ∧ rxCase p q b = .badEnd) ∨
    (4 ≤ q.rpos ∧ q.rpos ≤ p.L + 2 ∧ rxCase p q b = .pay) ∨
    (4 ≤ q.rpos ∧ p.L + 3 ≤ q.rpos ∧ q.racc ^^^ b = q.rchk ∧ rxCase p q b = .lastOk) ∨
    (4 ≤ q.rpos ∧ p.L + 3 ≤ q.rpos ∧ q.racc ^^^ b ≠ q.rchk ∧ rxCase p q b = .lastBad) := by
  unfold rxCase
  repeat' split
  all_goals simp_all
  all_goals omega

/-- R110: everything the event `RXB b` can do. -/
theorem rxb_cases (p : Params) (b : Byte) (s : State) :
    (s.rpos = 0 ∧ b = Config.startMarker ∧ rxb p b s = startEffect s) ∨
    (s.rpos = 0 ∧ b ≠ Config.startMarker ∧ rxb p b s = raise (.framing 0 b) s) ∨
    (s.rpos = 1 ∧ rxb p b s = resEffect b s) ∨
    (s.rpos = 2 ∧ rxb p b s = chkEffect b s) ∨
    (s.rpos = 3 ∧ b = Config.endMarker ∧ rxb p b s = endEffect s) ∨
    (s.rpos = 3 ∧ b ≠ Config.endMarker ∧ rxb p b s = raise (.framing 3 b) s) ∨
    (4 ≤ s.rpos ∧ s.rpos ≤ p.L + 2 ∧ rxb p b s = payEffect b s) ∨
    (4 ≤ s.rpos ∧ p.L + 3 ≤ s.rpos ∧ s.racc ^^^ b = s.rchk ∧
      rxb p b s = publish p (storePayload (p.L - 1) b s)) ∨
    (4 ≤ s.rpos ∧ p.L + 3 ≤ s.rpos ∧ s.racc ^^^ b ≠ s.rchk ∧
      rxb p b s = raise (.checksum s.rchk (s.racc ^^^ b)) (storePayload (p.L - 1) b s)) := by
  have h := rxCase_cases p s.selector b
  simp only [selector_rpos, selector_racc, selector_rchk] at h
  unfold rxb
  rcases h with h | h | h | h | h | h | h | h | h
  · exact .inl ⟨h.1, h.2.1, by rw [h.2.2]; rfl⟩
  · exact .inr (.inl ⟨h.1, h.2.1, by rw [h.2.2]; rfl⟩)
  · exact .inr (.inr (.inl ⟨h.1, by rw [h.2]; rfl⟩))
  · exact .inr (.inr (.inr (.inl ⟨h.1, by rw [h.2]; rfl⟩)))
  · exact .inr (.inr (.inr (.inr (.inl ⟨h.1, h.2.1, by rw [h.2.2]; rfl⟩))))
  · exact .inr (.inr (.inr (.inr (.inr (.inl ⟨h.1, h.2.1, by rw [h.2.2]; rfl⟩)))))
  · exact .inr (.inr (.inr (.inr (.inr (.inr (.inl ⟨h.1, h.2.1, by rw [h.2.2]; rfl⟩))))))
  · exact .inr (.inr (.inr (.inr (.inr (.inr (.inr (.inl ⟨h.1, h.2.1, h.2.2.1, by rw [h.2.2.2]; rfl⟩)))))))
  · exact .inr (.inr (.inr (.inr (.inr (.inr (.inr (.inr ⟨h.1, h.2.1, h.2.2.1, by rw [h.2.2.2]; rfl⟩)))))))

/-- R120: everything `RXT` can do. -/
theorem rxtEffect_cases (s : State) :
    (s.rpos = 0 ∧ rxtEffect s = s) ∨ (s.rpos ≠ 0 ∧ rxtEffect s = raise (.truncated s.rpos) s) := by
  unfold rxtEffect
  split <;> simp_all

/-! ## The TX unit -/

/-- R145: a frame offset up to `L + 3` names a byte. -/
theorem frameByte_isSome {p : Params} {s : State} {k : Nat} : (frameByte p s k).isSome ↔ k ≤ p.L + 3 := by
  unfold frameByte
  repeat' split
  all_goals simp only [Option.isSome_some, Option.isSome_none, true_iff, Bool.false_eq_true, false_iff]
  all_goals omega

/-- R143: everything a busy `TXP` can do. -/
theorem txSend_cases (p : Params) (s : State) :
    (∃ b, s.tpos ≤ p.L + 3 ∧ frameByte p s s.tpos = some b ∧
      txSend p s = .next (txAdvance p (emit (.txByte b) s))) ∨
    (p.L + 3 < s.tpos ∧ txSend p s = .fault .txPositionOutsideFrame) := by
  cases h : frameByte p s s.tpos with
  | some b => exact .inl ⟨b, frameByte_isSome.mp (by rw [h]; rfl), rfl, by simp [txSend, h]⟩
  | none =>
    refine .inr ⟨Nat.lt_of_not_le fun hle => ?_, by simp [txSend, h]⟩
    have : (frameByte p s s.tpos).isSome := frameByte_isSome.mpr hle
    rw [h] at this
    exact Bool.noConfusion this

/-- R163: only `TXP` at a position outside the frame fails to give a next state. -/
theorem event_next_or_fault (p : Params) (e : Event) (s : State) :
    (∃ t, event p e s = .next t) ∨ (e = .txp ∧ p.L + 3 < s.tpos ∧ event p e s = .fault .txPositionOutsideFrame) := by
  cases e with
  | txp =>
    simp only [event, txpEvent]
    split
    · rcases txSend_cases p s with ⟨b, _, _, h⟩ | ⟨h1, h2⟩
      · exact .inl ⟨_, h⟩
      · exact .inr ⟨trivial, h1, h2⟩
    · exact .inl ⟨_, rfl⟩
  | _ => exact .inl ⟨_, rfl⟩

/-! ## The image of a Result -/

@[simp] theorem ser_length (p : Params) (m : Mode) (r : ResultValue) : (ser p m r).length = p.L := by simp [ser]

@[simp] theorem rbufBytes_length (s : State) (n : Nat) : (rbufBytes s n).length = n := by simp [rbufBytes]

@[simp] theorem tbufBytes_length (s : State) (n : Nat) : (tbufBytes s n).length = n := by simp [tbufBytes]

@[simp] theorem serField_length (o : ByteOrder) (w u : Nat) : (serField o w u).length = w := by simp [serField]

@[simp] theorem slice_length (img : List Byte) (off w : Nat) : (slice img off w).length = w := by simp [slice]

/-- A buffer written whole reads back as the bytes written. -/
theorem tbufBytes_of_latch (p : Params) (res : Byte) (r : ResultValue) (s : State) :
    tbufBytes (txLatch p res r s) p.L = ser p s.mode r := by
  apply List.ext_getElem (by simp)
  intro i h1 h2
  have h : i < p.L := by simpa using h2
  simp [tbufBytes, tbufByte, Memory.read_ofBytesFrom, h]

end Sys2Proof.Machine
end

