-- ==== Sys2Proof/Laws/PerInstr.lean ====
section
/-! SUPPORT. Statements made for every instruction, one lemma per constructor. `EncodedRow`: the encoding of an
instruction has the kind of its row of spec/opcode_table.json and, for a step-word row, the row's mask and match. -/

namespace Sys2Proof.Laws.EncodedRow

/-- The (mask, match) of the step-word rows of the opcode table. -/
def row : Instr → Option (StepWord × StepWord)
  | .rst => some (0x3F00#14, 0x2000#14)
  | .setmode _ => some (0x3F00#14, 0x0400#14)
  | .rxbStart => some (0x3FFF#14, 0x10AA#14)
  | .rxbJunk _ => some (0x3F00#14, 0x1000#14)
  | .rxbRes _ => some (0x3F00#14, 0x1000#14)
  | .rxbChk _ => some (0x3F00#14, 0x1000#14)
  | .rxbEnd => some (0x3FFF#14, 0x1055#14)
  | .rxbBadend _ => some (0x3F00#14, 0x1000#14)
  | .rxbPay _ => some (0x3F00#14, 0x1000#14)
  | .rxbLastOk _ => some (0x3F00#14, 0x1000#14)
  | .rxbLastBad _ => some (0x3F00#14, 0x1000#14)
  | .rxt => some (0x3F00#14, 0x0800#14)
  | .txs _ _ => some (0x3F00#14, 0x0200#14)
  | .txsRefused _ _ => some (0x3F00#14, 0x0200#14)
  | .txp => some (0x3F00#14, 0x0100#14)
  | .txpIdle => some (0x3F00#14, 0x0100#14)
  | .nop => some (0x3F00#14, 0x0000#14)
  | .multiStrobe _ _ _ | .frameHeader _ _ | .modeBe | .modeNat | .rxs _ _ | .rxframe _ _ | .txall => none

/-- What is stated of each instruction. -/
def Statement (i : Instr) : Prop :=
  match row i with
  | some (mask, pat) => ∃ w r, encode i = .word w r ∧ w &&& mask = pat
  | none             => (∃ st d r, encode i = .word (mkWord st d) r ∧ i = .multiStrobe st d r) ∨
      (∃ h, encode i = .header h ∧ h &&& 0xFF0000FF#32 = 0xAA000055#32) ∨ ∃ l, encode i = .line l

/-- The strobes of a word, whatever its data byte. -/
theorem mkWord_strobes (st : BitVec 6) (d : Byte) : mkWord st d &&& 0x3F00#14 = mkWord st 0#8 := by
  revert st d; decide

theorem headerPattern_markers (res chk : Byte) : headerPattern res chk &&& 0xFF0000FF#32 = 0xAA000055#32 := by
  apply BitVec.eq_of_getLsbD_eq
  intro i hi
  simp only [headerPattern, Config.startMarker, Config.endMarker, BitVec.getLsbD_and, BitVec.getLsbD_append]
  by_cases h1 : i < 8
  · interval_cases i <;> simp
  · by_cases h2 : 24 ≤ i
    · interval_cases i <;> simp
    · interval_cases i <;> simp at *

theorem rst : Statement .rst := ⟨_, _, rfl, by decide⟩
theorem setmode (m : Mode) : Statement (.setmode m) := ⟨_, _, rfl, mkWord_strobes _ _⟩
theorem rxbStart : Statement .rxbStart := ⟨_, _, rfl, by decide⟩
theorem rxbJunk (b : Byte) : Statement (.rxbJunk b) := ⟨_, _, rfl, mkWord_strobes _ _⟩
theorem rxbRes (b : Byte) : Statement (.rxbRes b) := ⟨_, _, rfl, mkWord_strobes _ _⟩
theorem rxbChk (b : Byte) : Statement (.rxbChk b) := ⟨_, _, rfl, mkWord_strobes _ _⟩
theorem rxbEnd : Statement .rxbEnd := ⟨_, _, rfl, by decide⟩
theorem rxbBadend (b : Byte) : Statement (.rxbBadend b) := ⟨_, _, rfl, mkWord_strobes _ _⟩
theorem rxbPay (b : Byte) : Statement (.rxbPay b) := ⟨_, _, rfl, mkWord_strobes _ _⟩
theorem rxbLastOk (b : Byte) : Statement (.rxbLastOk b) := ⟨_, _, rfl, mkWord_strobes _ _⟩
theorem rxbLastBad (b : Byte) : Statement (.rxbLastBad b) := ⟨_, _, rfl, mkWord_strobes _ _⟩
theorem rxt : Statement .rxt := ⟨_, _, rfl, by decide⟩
theorem txs (res : Byte) (r : ResultValue) : Statement (.txs res r) := ⟨_, _, rfl, mkWord_strobes _ _⟩
theorem txsRefused (res : Byte) (r : ResultValue) : Statement (.txsRefused res r) := ⟨_, _, rfl, mkWord_strobes _ _⟩
theorem txp : Statement .txp := ⟨_, _, rfl, by decide⟩
theorem txpIdle : Statement .txpIdle := ⟨_, _, rfl, by decide⟩
theorem nop : Statement .nop := ⟨_, _, rfl, by decide⟩
theorem multiStrobe (st : BitVec 6) (d : Byte) (r : ResultValue) : Statement (.multiStrobe st d r) := .inl ⟨_, _, _, rfl, rfl⟩
theorem frameHeader (res : Byte) (chk : Byte) : Statement (.frameHeader res chk) := .inr (.inl ⟨_, rfl, headerPattern_markers _ _⟩)
theorem modeBe : Statement .modeBe := .inr (.inr ⟨_, rfl⟩)
theorem modeNat : Statement .modeNat := .inr (.inr ⟨_, rfl⟩)
theorem rxs (b : Byte) (bs : List Byte) : Statement (.rxs b bs) := .inr (.inr ⟨_, rfl⟩)
theorem rxframe (res : Byte) (img : List Byte) : Statement (.rxframe res img) := .inr (.inr ⟨_, rfl⟩)
theorem txall : Statement .txall := .inr (.inr ⟨_, rfl⟩)

end Sys2Proof.Laws.EncodedRow
end

