-- ==== Sys2Proof/Laws/Step.lean ====
section
/-! SUPPORT. `exec` and `step` of the instance are the machine for any parameters at the instance's parameters. -/

namespace Sys2Proof.Machine

theorem exec_eq_execWith (i : Instr) (s : State) : exec i s = execWith Config.params i s := by
  cases i <;> rfl

theorem step_nil {s : State} (h : s.input = []) : step s = .refused .noInputEvent := by
  simp [step, h]

theorem step_cons {s : State} {x : Input} {q : List Input} (h : s.input = x :: q) :
    step s = exec (decode Config.params s.selector x) (s.accept q) := by
  simp [step, h]

theorem step_eq_stepWith (s : State) : step s = stepWith Config.params s := by
  cases h : s.input <;> simp [step, stepWith, h, exec_eq_execWith]

/-- A presented raw word is the next item the step takes. -/
theorem withFetchWord_input {nbits w : Nat} {x : Input} (h : readRaw nbits w = .ok x) (s : State) :
    (s.withFetchWord nbits w).input = x :: s.input := by
  simp [State.withFetchWord, h]

end Sys2Proof.Machine
end

