-- ==== Sys2Proof/Tests/Slice0.lean ====
section
/-! SUPPORT. Tests. Expected values are the spec's: its encodings (30_encoding.md), its vectors (95_test_vectors.md, named
V-.., S.., P..) and its examples in the rules. Machine tests run the machine for the parameters *TOY* (R86) or an instance
with a gap byte. Then one witness for the hypotheses of each statement that has some. -/

namespace Sys2Proof.Tests

open Sys2Proof.Machine

/-! ## Helpers -/

/-- *TOY* with a big-endian host, and the instance of one payload byte that no field covers. -/
def toyBig : Params := { Reference.toy with hostOrder := .big }
def oneByte : Params := ⟨1, [], .little, 0, 0⟩
/-- Five payload bytes, a gap byte at offset 2. -/
def gapped : Params := ⟨5, [⟨"a", 0, 2, .uint⟩, ⟨"b", 3, 2, .sint⟩], .little, 0, 0⟩

/-- `{a = 0x1234, b = 0x5678}` on TOY. -/
def toyResult : ResultValue := ⟨[0x1234, 0x5678], []⟩

/-- A field of the next state. -/
def after {α : Type} (o : Host.Outcome State Fault Refusal) (f : State → α) : Option α :=
  match o with
  | .next s    => some (f s)
  | .fault _   => none
  | .refused _ => none

/-- A reset state with the RX position `n`. -/
def rxAt (n : Nat) : State := { State.reset with rpos := n }

/-- V-RX-8's state: TOY, three payload bytes in, `RACC = 0x70`. -/
def lastState (m : Mode) : State :=
  { State.reset with
    rpos := 7, rres := 0x04#8, rchk := 0x08#8, racc := 0x70#8, mode := m
    rbuf := [(0, 0x12#8), (1, 0x34#8), (2, 0x56#8)] }

/-- V-TX-1's state after the `TXS`. -/
def sending (n : Nat) : State :=
  { State.reset with
    tbusy := true, tpos := n, tres := 0x04#8, tchk := 0x08#8
    tbuf := [(0, 0x12#8), (1, 0x34#8), (2, 0x56#8), (3, 0x78#8)] }

/-! ## Well-formedness refuses each ill-formed term -/

theorem test_wf_junk_is_not_start : (Instr.rxbJunk 0xAA#8).wf Reference.toy = false := by decide
theorem test_wf_badend_is_not_end : (Instr.rxbBadend 0x55#8).wf Reference.toy = false := by decide
theorem test_wf_txs_missing_field : (Instr.txs 0x04#8 ⟨[1], []⟩).wf Reference.toy = false := by decide
theorem test_wf_txs_pattern_too_wide : (Instr.txs 0x04#8 ⟨[0x10000, 1], []⟩).wf Reference.toy = false := by decide
theorem test_wf_txs_refused_wrong_gap : (Instr.txsRefused 0x04#8 ⟨[1, 2], [(1, 0#8)]⟩).wf gapped = false := by decide
theorem test_wf_multi_needs_two_strobes : (Instr.multiStrobe 0x20#6 0#8 .zero).wf Reference.toy = false := by decide
theorem test_wf_multi_side_port : (Instr.multiStrobe 0x03#6 0#8 ⟨[1], []⟩).wf Reference.toy = false := by decide
theorem test_wf_rxframe_length : (Instr.rxframe 0x04#8 [1#8, 2#8]).wf Reference.toy = false := by decide
theorem test_wf_good_txs : (Instr.txs 0x04#8 ⟨[1, 2], [(2, 9#8)]⟩).wf gapped = true := by decide
theorem test_layout_overlap_refused : ¬ LayoutOk 4 [⟨"a", 0, 2, .uint⟩, ⟨"b", 1, 2, .uint⟩] := by decide
theorem test_layout_outside_refused : ¬ LayoutOk 4 [⟨"a", 3, 2, .uint⟩] := by decide
theorem test_toy_wf : Reference.toy.WF := by decide
theorem test_small_wf : Reference.small.WF ∧ Reference.small.L = 25 := by decide

/-! ## Decoding: words written out bit by bit from R88 (`rst rx_valid rx_timeout cfg_we tx_start tx_pop data`) -/

theorem test_decode_rst : decodeTableWord 16 0b10000000000000 = some .rst := by decide
theorem test_decode_setmode_big : decodeTableWord 16 0b00010011111111 = some (.setmode .big) := by decide
theorem test_decode_setmode_native : decodeTableWord 16 0b00010011111110 = some (.setmode .native) := by decide
theorem test_decode_start : decodeTableWord 16 0b01000010101010 = some .rxbStart := by decide
theorem test_decode_junk : decodeTableWord 16 0b01000001010101 = some (.rxbJunk 0x55#8) := by decide
theorem test_decode_res : decode Reference.toy (rxAt 1).selector (.word 0b01000010101010#14 .zero) = .rxbRes 0xAA#8 := by
  decide
theorem test_decode_chk : decode Reference.toy (rxAt 2).selector (.word 0b01000001000000#14 .zero) = .rxbChk 0x40#8 := by
  decide
theorem test_decode_end : decode Reference.toy (rxAt 3).selector (.word 0b01000001010101#14 .zero) = .rxbEnd := by decide
theorem test_decode_badend :
    decode Reference.toy (rxAt 3).selector (.word 0b01000001010100#14 .zero) = .rxbBadend 0x54#8 := by decide
theorem test_decode_pay : decode Reference.toy (rxAt 6).selector (.word 0b01000000010010#14 .zero) = .rxbPay 0x12#8 := by
  decide
theorem test_decode_last_ok :
    decode Reference.toy (lastState .big).selector (.word 0b01000001111000#14 .zero) = .rxbLastOk 0x78#8 := by decide
theorem test_decode_last_bad :
    decode Reference.toy (lastState .big).selector (.word 0b01000001111001#14 .zero) = .rxbLastBad 0x79#8 := by decide
/-- R90: for `L = 1` position 4 is the last. -/
theorem test_decode_one_byte_payload :
    decode oneByte ⟨4, 0#8, 0x5A#8, false⟩ (.word 0x105A#14 .zero) = .rxbLastOk 0x5A#8 := by decide
theorem test_decode_rxt : decodeTableWord 16 0b00100000000000 = some .rxt := by decide
theorem test_decode_txs : decodeTableWord 16 0b00001000000100 = some (.txs 0x04#8 .zero) := by decide
theorem test_decode_txs_refused :
    decode Reference.toy (sending 2).selector (.word 0b00001000001000#14 toyResult) = .txsRefused 0x08#8 toyResult := by
  decide
theorem test_decode_txp : decode Reference.toy (sending 2).selector (.word 0b00000100000000#14 .zero) = .txp := by decide
theorem test_decode_txp_idle : decodeTableWord 16 0b00000100000000 = some .txpIdle := by decide
theorem test_decode_nop : decodeTableWord 16 0x003C = some .nop := by decide
/-- V-CT-5's word. -/
theorem test_decode_multi : decodeTableWord 16 0x30AA = some (.multiStrobe 0b110000#6 0xAA#8 .zero) := by decide
/-- R80: `10101010 rrrrrrrr cccccccc 01010101`. -/
theorem test_decode_header :
    decodeTableWord 32 0b10101010000001000000100001010101 = some (.frameHeader 0x04#8 0x08#8) := by decide
theorem test_decode_header_bad_end :
    decodeTableWord 32 0xAA040854 = some (.rxs 0xAA#8 [0x04#8, 0x08#8, 0x54#8]) := by decide
theorem test_decode_above_step_word : readRaw 16 0x4000 = .error .aboveStepWord := by rfl
theorem test_decode_no_such_width : readRaw 24 0 = .error .noSuchWidth := by rfl
theorem test_decode_lines (q : Selector) :
    decode Reference.toy q (.line .modeBe) = .modeBe ∧ decode Reference.toy q (.line .modeNat) = .modeNat ∧
    decode Reference.toy q (.line (.rxs 1#8 [2#8])) = .rxs 1#8 [2#8] ∧
    decode Reference.toy q (.line (.rxframe 4#8 [])) = .rxframe 4#8 [] ∧ decode Reference.toy q (.line .txall) = .txall :=
  ⟨rfl, rfl, rfl, rfl, rfl⟩
/-- R93: the encoding of `RXS` is its words; V-CT-7's word is `1478`. -/
theorem test_canonical_words :
    (Instr.rxs 0xAA#8 [0x04#8]).canonicalWords Reference.toy = [.word 0x10AA#14 .zero, .word 0x1004#14 .zero] := by decide
theorem test_encode_setmode : encode (.setmode .big) = .word 0x0401#14 .zero := by decide

/-! ## Fields and images -/

/-- V-SER-3, V-SER-4. -/
theorem test_ser_field :
    serField .big 4 0x41280000 = [0x41#8, 0x28#8, 0x00#8, 0x00#8] ∧
    serField .little 4 0x41280000 = [0x00#8, 0x00#8, 0x28#8, 0x41#8] := by decide
/-- V-SER-7 to V-SER-11. -/
theorem test_deser_field :
    fieldValue .sint 2 (deserField .big 2 [0xFF#8, 0xFE#8]) = -2 ∧
    fieldValue .uint 2 (deserField .big 2 [0xFF#8, 0xFE#8]) = 65534 ∧
    fieldValue .sint 2 (deserField .big 2 [0x80#8, 0x00#8]) = -32768 ∧
    deserField .little 2 [0xD2#8, 0x04#8] = 0x04D2 ∧
    fieldValue .sint 2 (deserField .big 2 [0xD2#8, 0x04#8]) = -11772 := by decide
/-- V-SER-12, V-SER-13: patterns of floats are delivered as they are. -/
theorem test_float_patterns :
    fieldValue .float 4 (deserField .big 4 [0x80#8, 0x00#8, 0x00#8, 0x00#8]) = 0x80000000 ∧
    fieldValue .float 4 (deserField .big 4 [0x7F#8, 0xC0#8, 0x00#8, 0x01#8]) = 0x7FC00001 := by decide
/-- R55: a gap byte stands where it stood in both modes. -/
theorem test_ser_gap :
    ser gapped .big ⟨[0x1234, 0x5678], [(2, 0x99#8)]⟩ = [0x12#8, 0x34#8, 0x99#8, 0x56#8, 0x78#8] ∧
    ser gapped .native ⟨[0x1234, 0x5678], [(2, 0x99#8)]⟩ = [0x34#8, 0x12#8, 0x99#8, 0x78#8, 0x56#8] := by decide
/-- V-XOR-2, V-XOR-4, V-XOR-8. -/
theorem test_xor_all :
    xorAll [0x12#8, 0x34#8, 0x56#8, 0x78#8] = 0x08#8 ∧ xorAll [0x93#8, 0x34#8, 0x56#8, 0xF9#8] = 0x08#8 ∧
    xorAll [0x12#8, 0x34#8, 0xFF#8, 0xFE#8] = 0x27#8 := by decide
/-- V-DB-2, V-DB-4, V-DB-5, V-DB-6, V-DB-9, V-DB-10, V-DB-11. -/
theorem test_decode_buf :
    decodeBuf Reference.toy .big [0xAA#8, 0x04#8, 0x08#8, 0x55#8, 0x12#8, 0x34#8, 0x56#8, 0x78#8, 0x99#8, 0x99#8]
      = .ok 0x04#8 toyResult ∧
    decodeBuf Reference.toy .big [0xAA#8, 0x04#8, 0x08#8, 0x54#8, 0x12#8, 0x34#8, 0x56#8, 0x78#8] = .framingError ∧
    decodeBuf Reference.toy .big [0xAA#8, 0x04#8, 0x08#8, 0x55#8, 0x12#8, 0x34#8, 0x56#8] = .truncatedError ∧
    decodeBuf Reference.toy .big [0xAA#8, 0x04#8, 0x08#8, 0x55#8, 0x12#8, 0x34#8, 0x56#8, 0x79#8] = .checksumError ∧
    decodeBuf Reference.toy .big [0xAA#8, 0x04#8] = .truncatedError ∧
    decodeBuf Reference.toy .big [0x00#8] = .framingError ∧
    decodeBuf Reference.toy .big [0xAA#8, 0x04#8, 0x08#8, 0x54#8] = .framingError := by decide
/-- R86: zone 1 of SMALL starts at 13, its `Distance[0]` at 14, its `Signal[0]` at 21. -/
theorem test_small_layout :
    (Reference.small.layout.map fun f => (f.off, f.w)) =
      [(0, 1), (1, 1), (2, 2), (4, 1), (5, 4), (9, 4), (13, 1), (14, 2), (16, 1), (17, 4), (21, 4)] := by decide
/-- V-TX-8: SMALL, host-native little-endian. -/
theorem test_encode_small_native :
    encodeFrame Reference.small .native 0x08#8
        ⟨[2, 1, 1234, 0, 0x41280000, 0x41A20000, 1, 1234, 0, 0x41280000, 0x41A20000], []⟩ =
      [0xAA#8, 0x08#8, 0x02#8, 0x55#8, 0x02#8,
       0x01#8, 0xD2#8, 0x04#8, 0x00#8, 0x00#8, 0x00#8, 0x28#8, 0x41#8, 0x00#8, 0x00#8, 0xA2#8, 0x41#8,
       0x01#8, 0xD2#8, 0x04#8, 0x00#8, 0x00#8, 0x00#8, 0x28#8, 0x41#8, 0x00#8, 0x00#8, 0xA2#8, 0x41#8] := by decide

/-! ## One step of each row -/

/-- V-CT-1. -/
theorem test_rst :
    after (execWith Reference.toy .rst { sending 3 with rpos := 6, racc := 1#8, mode := .native })
      (fun t => (t.rpos, t.racc, t.tpos, t.mode)) = some (0, 0#8, 0, .big) := by decide
theorem test_rst_leaves_no_written_byte :
    after (execWith Reference.toy .rst (sending 3)) (fun t => (t.tbuf, t.tbusy, t.resets, t.out)) = some ([], false, 1, []) := by
  decide
/-- V-CT-3. -/
theorem test_setmode : after (execWith Reference.toy (.setmode .big) { State.reset with mode := .native }) State.mode
    = some .big := by decide
/-- V-RX-1. -/
theorem test_start : after (execWith Reference.toy .rxbStart (rxAt 0)) (fun t => (t.rpos, t.out)) = some (1, []) := by
  decide
/-- V-RX-2b. -/
theorem test_junk : after (execWith Reference.toy (.rxbJunk 0x55#8) (rxAt 0)) (fun t => (t.rpos, t.out))
    = some (0, [.err (.framing 0 0x55#8)]) := by decide
/-- V-RX-3b. -/
theorem test_res : after (execWith Reference.toy (.rxbRes 0xAA#8) (rxAt 1)) (fun t => (t.rpos, t.rres, t.out))
    = some (2, 0xAA#8, []) := by decide
/-- V-RX-4. -/
theorem test_chk : after (execWith Reference.toy (.rxbChk 0x40#8) (rxAt 2)) (fun t => (t.rpos, t.rchk, t.out))
    = some (3, 0x40#8, []) := by decide
/-- V-RX-5. -/
theorem test_end : after (execWith Reference.toy .rxbEnd { rxAt 3 with racc := 0x7E#8 }) (fun t => (t.rpos, t.racc, t.out))
    = some (4, 0x00#8, []) := by decide
/-- V-RX-6b. -/
theorem test_badend : after (execWith Reference.toy (.rxbBadend 0xAA#8) (rxAt 3)) (fun t => (t.rpos, t.out))
    = some (0, [.err (.framing 3 0xAA#8)]) := by decide
/-- V-RX-7b. -/
theorem test_pay :
    after (execWith Reference.toy (.rxbPay 0xAA#8) { rxAt 5 with racc := 0x12#8, rbuf := [(0, 0x12#8)] })
      (fun t => (t.rpos, t.racc, t.rbuf, t.out)) = some (6, 0xB8#8, [(0, 0x12#8), (1, 0xAA#8)], []) := by decide
/-- V-RX-8. -/
theorem test_last_ok : after (execWith Reference.toy (.rxbLastOk 0x78#8) (lastState .big)) (fun t => (t.rpos, t.racc, t.out))
    = some (0, 0x08#8, [.frame ⟨0xAA#8, 0x04#8, 0x08#8, 0x55#8, [0x12#8, 0x34#8, 0x56#8, 0x78#8]⟩ toyResult]) := by decide
/-- V-RX-8b. -/
theorem test_last_ok_native :
    after (execWith Reference.toy (.rxbLastOk 0x78#8) (lastState .native)) State.out =
      some [.frame ⟨0xAA#8, 0x04#8, 0x08#8, 0x55#8, [0x12#8, 0x34#8, 0x56#8, 0x78#8]⟩ ⟨[0x3412, 0x7856], []⟩] := by decide
/-- V-RX-9. -/
theorem test_last_bad :
    after (execWith Reference.toy (.rxbLastBad 0x79#8) (lastState .big)) (fun t => (t.rpos, t.rbuf.read 3, t.racc, t.out))
      = some (0, some 0x79#8, 0x09#8, [.err (.checksum 0x08#8 0x09#8)]) := by decide
/-- V-RX-10. -/
theorem test_rxt_hunting : execWith Reference.toy .rxt (rxAt 0) = .next (rxAt 0) := by rfl
/-- V-RX-12. -/
theorem test_rxt : after (execWith Reference.toy .rxt (rxAt 4)) (fun t => (t.rpos, t.out))
    = some (0, [.err (.truncated 4)]) := by decide
/-- V-TX-1. -/
theorem test_txs : execWith Reference.toy (.txs 0x04#8 toyResult) State.reset = .next (sending 0) := by rfl
/-- V-TX-5. -/
theorem test_txs_native :
    after (execWith Reference.toy (.txs 0x04#8 toyResult) { State.reset with mode := .native })
      (fun t => (t.tchk, t.tbuf)) = some (0x08#8, [(0, 0x34#8), (1, 0x12#8), (2, 0x78#8), (3, 0x56#8)]) := by decide
/-- V-TX-2. -/
theorem test_txs_refused : execWith Reference.toy (.txsRefused 0x08#8 .zero) (sending 2)
    = .next { sending 2 with out := [.txRefused] } := by rfl
/-- P4: the bytes at offsets 2 and 4. -/
theorem test_txp :
    after (execWith Reference.toy .txp (sending 2)) (fun t => (t.tpos, t.tbusy, t.out)) = some (3, true, [.txByte 0x08#8]) ∧
    after (execWith Reference.toy .txp (sending 4)) State.out = some [.txByte 0x12#8] := by decide
/-- V-TX-3: the last byte. -/
theorem test_txp_last :
    after (execWith Reference.toy .txp (sending 7)) (fun t => (t.tpos, t.tbusy, t.out)) = some (0, false, [.txByte 0x78#8]) := by
  decide
/-- V-TX-4. -/
theorem test_txp_idle : execWith Reference.toy .txpIdle State.reset = .next State.reset := by rfl
theorem test_nop : execWith Reference.toy .nop (lastState .big) = .next (lastState .big) := by rfl
/-- V-CT-6. -/
theorem test_multi_rxb_rxt :
    after (execWith Reference.toy (.multiStrobe 0b011000#6 0x55#8 .zero) (rxAt 3)) (fun t => (t.rpos, t.racc, t.out))
      = some (0, 0x00#8, [.err (.truncated 4)]) := by decide
/-- V-CT-7. -/
theorem test_multi_setmode_rxb :
    after (execWith Reference.toy (.multiStrobe 0b010100#6 0x78#8 .zero) (lastState .big)) (fun t => (t.mode, t.out))
      = some (.native,
        [.frame ⟨0xAA#8, 0x04#8, 0x08#8, 0x55#8, [0x12#8, 0x34#8, 0x56#8, 0x78#8]⟩ ⟨[0x3412, 0x7856], []⟩]) := by decide
theorem test_header :
    execWith Reference.toy (.frameHeader 0x04#8 0x08#8) (rxAt 0) = .next { rxAt 4 with rres := 0x04#8, rchk := 0x08#8 } := by
  rfl
theorem test_mode_lines :
    execWith Reference.toy .modeNat State.reset = .next { State.reset with mode := .native } ∧
    execWith Reference.toy .modeBe { State.reset with mode := .native } = .next State.reset := ⟨rfl, rfl⟩
/-- P2's first four bytes and `AA 54`: junk, then a header with a bad end marker. -/
theorem test_rxs :
    after (execWith Reference.toy (.rxs 0x00#8 [0x55#8, 0xAA#8, 0x04#8, 0xAA#8, 0x54#8]) (rxAt 0))
      (fun t => (t.rpos, t.rchk, t.out)) =
      some (0, 0xAA#8, [.err (.framing 0 0x00#8), .err (.framing 0 0x55#8), .err (.framing 3 0x54#8)]) := by decide
/-- P1. -/
theorem test_rxframe :
    after (execWith Reference.toy (.rxframe 0x04#8 [0x12#8, 0x34#8, 0x56#8, 0x78#8]) (rxAt 0))
      (fun t => (t.rpos, t.rres, t.rchk, t.racc, t.out)) = some (0, 0x04#8, 0x08#8, 0x08#8,
        [.frame ⟨0xAA#8, 0x04#8, 0x08#8, 0x55#8, [0x12#8, 0x34#8, 0x56#8, 0x78#8]⟩ toyResult]) := by decide
/-- V-TX-3. -/
theorem test_txall :
    after (execWith Reference.toy .txall (sending 0)) (fun t => (t.tpos, t.tbusy, sentBytes t.out)) = some (0, false,
      [0xAA#8, 0x04#8, 0x08#8, 0x55#8, 0x12#8, 0x34#8, 0x56#8, 0x78#8]) := by decide
theorem test_txp_outside_the_frame_faults :
    execWith Reference.toy .txp (sending 8) = .fault .txPositionOutsideFrame := by rfl
theorem test_row_not_selected : execWith Reference.toy (.rxbRes 0x08#8) (rxAt 2) = .refused .caseNotSelected := by rfl
/-- R94: the numeric codes at the port. -/
theorem test_output_port :
    outputPort (.err (.checksum 0x08#8 0x09#8)) = ⟨false, true, some 3#2, false, none, false⟩ ∧
    outputPort (.txByte 0xAA#8) = ⟨false, false, none, true, some 0xAA#8, false⟩ := by decide
/-- R32. -/
theorem test_level_outputs : (rxInframe (rxAt 0), rxInframe (rxAt 1), txBusy (sending 2)) = (false, true, true) := by decide

/-! ## The step -/

/-- The first step after reset runs the presented word. -/
theorem test_step_start : after (step (State.reset.withFetchWord 16 0x10AA)) State.rpos = some 1 := by decide
theorem test_step_header : after (step (State.reset.withFetchWord 32 0xAA040855)) (fun t => (t.rpos, t.rres, t.rchk))
    = some (4, 0x04#8, 0x08#8) := by decide
theorem test_step_no_input : step State.reset = .refused .noInputEvent := by rfl
/-- The output port holds this step's events only (R34). -/
theorem test_step_clears_outputs :
    after (stepWith Reference.toy { sending 3 with out := [.txRefused], input := [.word 0x0100#14 .zero] })
      (fun t => (t.out, t.input)) = some ([.txByte 0x55#8], []) := by decide

/-! ## Witnesses: a state and operands that meet the hypotheses of each statement -/

/-- A payload of `L` zero bytes and a Result value of the instance. -/
def zeroImage : List Byte := List.replicate Config.params.L 0#8

def zeroResult (p : Params) : ResultValue := ⟨p.layout.map fun _ => 0, p.gapOffsets.map fun o => (o, 0#8)⟩

theorem zeroResult_WF (p : Params) : (zeroResult p).WF p := by
  refine ⟨by simp [zeroResult], fun fu h => ?_, by simp [zeroResult, Function.comp_def]⟩
  obtain ⟨_, h⟩ := List.of_mem_zip (a := fu.1) (b := fu.2) h
  obtain ⟨_, _, h⟩ := List.mem_map.mp h
  exact h ▸ Nat.two_pow_pos _

/-- A state of the invariant with a frame being sent: what an accepted `TXS` of all-zero data leaves. -/
def busyState : State :=
  { State.reset with tbusy := true, tbuf := Memory.ofBytesFrom 0 zeroImage, tchk := xorAll (tbufBytes
      { State.reset with tbuf := Memory.ofBytesFrom 0 zeroImage } Config.params.L) }

theorem busyState_inv : BlockInv Config.params busyState where
  rpos_le := Nat.zero_le _
  tpos_le := Nat.zero_le _
  racc_eq := fun h => absurd h (by decide)
  rbuf_written := fun i h => absurd h (Nat.not_lt_zero _)
  tchk_eq := fun _ => rfl
  tbuf_written := fun _ i h => by simp [busyState, Memory.read_ofBytesFrom, zeroImage, h]
  tx_idle := fun h => Bool.noConfusion h
  rbuf_wf := .nil
  rbuf_in := fun c h => absurd h List.not_mem_nil
  tbuf_wf := Memory.ofBytesFrom_WF _ _
  tbuf_in := fun c h => by
    have := Memory.ofBytesFrom_upper h
    simpa [zeroImage] using this

/-- The last position of a frame, with the accumulator such that the byte `0x5A` is the right last byte. -/
def lastPosition : State := { State.reset with rpos := Config.params.L + 3, racc := 0x5A#8 }

/-- `HeaderBytesAreTaken`, `WrongMarkersRaiseFramingError`, `TimeoutDropsTheCandidate`: each position named. -/
theorem witness_header_positions :
    (rxAt 0).rpos = 0 ∧ (rxAt 1).rpos = 1 ∧ (rxAt 2).rpos = 2 ∧ (rxAt 3).rpos = 3 ∧ (rxAt 3).rpos ≠ 0 ∧
    (0x54#8 : Byte) ≠ 0xAA#8 ∧ (0x54#8 : Byte) ≠ 0x55#8 := by decide

/-- `RxbRowIsChosenByPositionAndByte`: the last position, both outcomes of the comparison. -/
theorem witness_row_positions :
    lastPosition.rpos ≤ Config.params.L + 3 ∧ lastPosition.rpos = Config.params.L + 3 ∧
    lastPosition.racc ^^^ 0x5A#8 = lastPosition.rchk ∧ lastPosition.racc ^^^ 0x5B#8 ≠ lastPosition.rchk :=
  ⟨Nat.le_refl _, rfl, by decide, by decide⟩

/-- `RxbRowIsChosenByPositionAndByte`, `PayloadByteIsStoredAndFolded`: the first and the last payload position on TOY.
(For `L = 1` the row is empty, R90.) -/
theorem witness_payload_position :
    4 ≤ (rxAt 4).rpos ∧ (rxAt 4).rpos ≤ Reference.toy.L + 2 ∧
    4 ≤ (rxAt 6).rpos ∧ (rxAt 6).rpos = Reference.toy.L + 2 := by decide

/-- `LastGoodBytePublishesTheFrame`, `LastBadByteDiscardsTheFrame`. -/
theorem witness_last_position :
    lastPosition.rpos = Config.params.L + 3 ∧ lastPosition.racc ^^^ 0x5A#8 = lastPosition.rchk ∧
    lastPosition.racc ^^^ 0x5B#8 ≠ lastPosition.rchk := ⟨rfl, by decide, by decide⟩

/-- `EveryJunkByteIsReportedOnce`. -/
theorem witness_junk : (rxAt 0).rpos = 0 ∧ ∀ x ∈ [0x00#8, 0x55#8, 0xAB#8], x ≠ (0xAA#8 : Byte) := by decide

/-- `AcceptedTxsLatchesTheFrame`, `TxsWhileBusyIsRefused`, `TxpWhileIdleDoesNothing`. -/
theorem witness_busy_and_idle : State.reset.tbusy = false ∧ busyState.tbusy = true := ⟨rfl, rfl⟩

/-- `TxpHandsOverTheNextByte`, `TxallSendsTheRestOfTheFrame`: the first and the last position of the frame. -/
theorem witness_tx_positions :
    busyState.tbusy = true ∧ busyState.tpos ≤ Config.params.L + 3 ∧
    ({ busyState with tpos := Config.params.L + 3 } : State).tpos = Config.params.L + 3 := ⟨rfl, Nat.zero_le _, rfl⟩

/-- `SeveralStrobesAreTheirWordsInOrder`: two strobes and all six. -/
theorem witness_strobes : 2 ≤ strobeCount 0x30#6 ∧ 2 ≤ strobeCount 0x3F#6 ∧ State.reset.tpos ≤ Config.params.L + 3 :=
  ⟨by decide, by decide, Nat.zero_le _⟩

/-- `HeaderOpensThePayload`, `RxframePublishesItsImage`, `FramesBackToBackAreAllPublished`,
`CorruptionPassesExactlyWhenErrorsCancel`. -/
theorem witness_frames :
    State.reset.rpos = 0 ∧ zeroImage.length = Config.params.L ∧
    ∀ f ∈ [((0x04#8 : Byte), zeroImage), (0x08#8, zeroImage)], f.2.length = Config.params.L :=
  ⟨rfl, by simp [zeroImage], by simp [zeroImage]⟩

/-- `EveryInstructionIsItsCanonicalTrace`: an instruction that is selected and runs. -/
theorem witness_canonical_trace :
    Instr.rxbStart.selectedBy Config.params State.reset.selector = true ∧
    exec .rxbStart (State.reset.accept []) = .next (rxAt 1) := ⟨by decide, by rfl⟩

/-- `DecodeOfEncodeIsTheInstruction`: a row with a state condition and operands, selected. -/
theorem witness_decode_encode :
    (Instr.txs 0x04#8 toyResult).wf Reference.toy = true ∧
    (Instr.txs 0x04#8 toyResult).selectedBy Reference.toy Selector.reset = true ∧
    (Instr.rxbBadend 0xAA#8).wf Reference.toy = true ∧
    (Instr.rxbBadend 0xAA#8).selectedBy Reference.toy (rxAt 3).selector = true := by decide

/-- `StepRunsTheDecodedInstruction`, `NoStepWithoutAnInputEvent`. -/
theorem witness_input :
    (State.reset.withFetchWord 16 0x2000).input = [.word 0x2000#14 .zero] ∧ State.reset.input = [] := ⟨rfl, rfl⟩

/-- `EveryStepKeepsTheInvariant`, `EveryInputGivesANextState`, `OutputsIgnoreUnspecifiedContents`: a state of the
invariant with a frame being sent, from which a step completes. -/
theorem witness_invariant :
    BlockInv Config.params { busyState with input := [.word 0x0000#14 .zero] } ∧
    step { busyState with input := [.word 0x0000#14 .zero] } = .next busyState := by
  refine ⟨?_, rfl⟩
  exact { busyState_inv with }

/-- `RstReachesTheResetValues`' companion `ResetEstablishesTheInvariant`: `RST` answers a next state. -/
theorem witness_rst : exec .rst (lastState .native) = .next (rstEffect (lastState .native)) := rfl

/-- `OnlySetmodeAndRstSwitchTheMode`, `OneStrobeEmitsAtMostOneOutput`: a word that runs. -/
theorem witness_one_strobe :
    (0x10AA#14 : StepWord).getLsbD 13 = false ∧ (0x10AA#14 : StepWord).getLsbD 10 = false ∧
    strobeCount ((0x10AA#14 : StepWord).extractLsb' 8 6) ≤ 1 ∧
    exec (decode Config.params State.reset.selector (.word 0x10AA#14 .zero)) State.reset = .next (rxAt 1) :=
  ⟨by decide, by decide, by decide, by rfl⟩

/-- The decoder reads the right last byte as `RXB.LAST.OK` at the last position. -/
theorem lastPosition_row : rxCase Config.params lastPosition.selector 0x5A#8 = .lastOk := by
  have hL := Config.params_L_pos
  rcases rxCase_cases Config.params lastPosition.selector 0x5A#8 with
    h | h | h | h | h | h | h | h | h <;>
  simp only [lastPosition, State.selector] at h
  · exact absurd h.1 (by omega)
  · exact absurd h.1 (by omega)
  · exact absurd h.1 (by omega)
  · exact absurd h.1 (by omega)
  · exact absurd h.1 (by omega)
  · exact absurd h.1 (by omega)
  · exact absurd h.2.1 (by omega)
  · exact h.2.2.2
  · exact absurd (by decide) h.2.2.1

/-- `OnlyALastGoodBytePublishes`: at the last position the right byte publishes. -/
theorem witness_publishing :
    exec (decode Config.params lastPosition.selector (eventInput (.rxb 0x5A#8))) lastPosition =
      .next (publish Config.params (storePayload (Config.params.L - 1) 0x5A#8 lastPosition)) ∧
    (publish Config.params (storePayload (Config.params.L - 1) 0x5A#8 lastPosition)).out = lastPosition.out ++
      [.frame (rxPacket lastPosition
          (rbufBytes (storePayload (Config.params.L - 1) 0x5A#8 lastPosition) Config.params.L))
        (deser Config.params .big
          (rbufBytes (storePayload (Config.params.L - 1) 0x5A#8 lastPosition) Config.params.L))] := by
  refine ⟨?_, rfl⟩
  have hd : decode Config.params lastPosition.selector (eventInput (.rxb 0x5A#8)) = .rxbLastOk 0x5A#8 := by
    show rxInstr _ (rxCase _ _ _) = _
    rw [show wordData (mkWord strobeRxValid 0x5A#8) = 0x5A#8 from by decide, lastPosition_row]
    rfl
  rw [hd]
  exact whenCase_eq_next.mpr ⟨lastPosition_row, rfl⟩

/-- The last position as a state of the invariant: a frame of `L` zero bytes, all but the last received. -/
def nearlyDone : State :=
  { State.reset with
    rpos := Config.params.L + 3
    rbuf := Memory.ofBytesFrom 0 (List.replicate (Config.params.L - 1) 0#8)
    racc := xorAll (rbufBytes
      { State.reset with rbuf := Memory.ofBytesFrom 0 (List.replicate (Config.params.L - 1) 0#8) } (Config.params.L - 1))
    rchk := xorAll (rbufBytes
      { State.reset with rbuf := Memory.ofBytesFrom 0 (List.replicate (Config.params.L - 1) 0#8) } (Config.params.L - 1))
    input := [.word 0x1000#14 .zero] }

theorem nearlyDone_inv : BlockInv Config.params nearlyDone where
  rpos_le := Nat.le_refl _
  tpos_le := Nat.zero_le _
  racc_eq := fun _ => by
    show _ = xorAll (rbufBytes nearlyDone (Config.params.L + 3 - 4))
    rw [show Config.params.L + 3 - 4 = Config.params.L - 1 by omega]
    rfl
  rbuf_written := fun i h => by
    have : i < Config.params.L - 1 := by
      simp only [nearlyDone] at h
      omega
    simp [nearlyDone, Memory.read_ofBytesFrom, this]
  tchk_eq := fun h => Bool.noConfusion h
  tbuf_written := fun h => Bool.noConfusion h
  tx_idle := fun _ => rfl
  rbuf_wf := Memory.ofBytesFrom_WF _ _
  rbuf_in := fun c h => by
    have := Memory.ofBytesFrom_upper h
    have := Config.params_L_pos
    simp only [List.length_replicate] at *
    omega
  tbuf_wf := .nil
  tbuf_in := fun c h => absurd h List.not_mem_nil

theorem nearlyDone_row : rxCase Config.params nearlyDone.selector 0x00#8 = .lastOk := by
  have hL := Config.params_L_pos
  rcases rxCase_cases Config.params nearlyDone.selector 0x00#8 with
    h | h | h | h | h | h | h | h | h <;>
  simp only [nearlyDone, State.selector] at h
  · exact absurd h.1 (by omega)
  · exact absurd h.1 (by omega)
  · exact absurd h.1 (by omega)
  · exact absurd h.1 (by omega)
  · exact absurd h.1 (by omega)
  · exact absurd h.1 (by omega)
  · exact absurd h.2.1 (by omega)
  · exact h.2.2.2
  · exact absurd BitVec.xor_zero h.2.2.1

/-- `EveryPublishedFramePassedTheChecks`: a state of the invariant from which a step publishes a frame. -/
theorem witness_published :
    BlockInv Config.params nearlyDone ∧
    ∃ t pk v, step nearlyDone = .next t ∧ .frame pk v ∈ t.out := by
  refine ⟨nearlyDone_inv,
    publish Config.params (storePayload (Config.params.L - 1) 0x00#8 (nearlyDone.accept [])), _, _, ?_,
    List.mem_append_right _ List.mem_cons_self⟩
  have hd : decode Config.params nearlyDone.selector (.word 0x1000#14 .zero) = .rxbLastOk 0x00#8 := by
    show rxInstr _ (rxCase _ _ _) = _
    rw [show wordData 0x1000#14 = 0x00#8 from by decide, nearlyDone_row]
    rfl
  rw [step_cons (x := .word 0x1000#14 .zero) (q := []) rfl, hd]
  exact whenCase_eq_next.mpr ⟨nearlyDone_row, rfl⟩

/-- `ModeOnlyAffectsTheResultView`, `RxAndTxEventsCommute`: events of the two units, and the commuting pair runs. -/
theorem witness_events :
    (∀ e ∈ [Event.rxb 0xAA#8, .rxt], e.isRx = true) ∧ Event.txp.isTx = true ∧
    (∃ t, runEvents [.rxb 0xAA#8, .txp] State.reset = .next t) ∧
    ∃ u, runEvents [.txp, .rxb 0xAA#8] State.reset = .next u := ⟨by decide, rfl, ⟨_, rfl⟩, ⟨_, rfl⟩⟩

/-- `FieldBytesReadBack`, `SignedFieldsAreTwosComplement`: the greatest pattern, and the empty field. -/
theorem witness_fields : 65535 < 2 ^ (8 * 2) ∧ 0 < 2 ^ (8 * 0) ∧ 1 ≤ 2 := by decide

/-- `SerialisationIsInvertible`, `ChecksumIgnoresByteOrder`: parameters with a gap and two orders. -/
theorem witness_parameters :
    gapped.WF ∧ ResultValue.WF gapped ⟨[0x1234, 0x5678], [(2, 0x99#8)]⟩ ∧ order gapped .big ≠ order gapped .native ∧
    [1#8, 2#8, 3#8, 4#8, 5#8].length = gapped.L ∧ gapped.layout[1]? = some ⟨"b", 3, 2, .sint⟩ ∧ Config.params.WF :=
  ⟨by decide, by decide, by decide, by decide, by decide, Config.params_WF⟩

/-- `SingleErrorsAreSeenEqualPairsAreNot` (V-XOR-4's pair). -/
theorem witness_errors : 0 < [0x12#8, 0x34#8].length ∧ 1 < [0x12#8, 0x34#8].length ∧ 0 ≠ 1 ∧ (0x81#8 : Byte) ≠ 0x00#8 := by
  decide

/-- `StreamFormAgreesWithBufferForm`, `DecodeOfEncodeIsTheResult`. -/
theorem witness_round_trip :
    State.reset.rpos = 0 ∧ State.reset.mode = .big ∧ (zeroResult Config.params).WF Config.params :=
  ⟨rfl, rfl, zeroResult_WF _⟩

/-- `TransmissionIsTheEncodedFrame`. -/
theorem witness_transmission :
    State.reset.tbusy = false ∧
    exec (.txs 0x04#8 (zeroResult Config.params)) State.reset =
      .next (txLatch Config.params 0x04#8 (zeroResult Config.params) State.reset) ∧
    (∀ e ∈ List.replicate (Config.params.L + 4) Event.txp,
      e.isRx = true ∨ e = .txp ∨ e = .nop ∨ ∃ m, e = .setmode m) ∧
    (List.replicate (Config.params.L + 4) Event.txp).count .txp = Config.params.L + 4 :=
  ⟨rfl, rfl, fun _ h => .inr (.inl (List.eq_of_mem_replicate h)), List.count_replicate_self⟩

/-- `DocumentScenarioHasItsChecksum`: its hypotheses only name its operands; REF has 769 payload bytes (R86). -/
theorem witness_reference :
    Reference.ref.L = 769 ∧ ∃ (zone img : List Byte) (r : ResultValue),
      zone = [0x01#8, 0x04#8, 0xD2#8, 0x00#8, 0x41#8, 0x28#8, 0x00#8, 0x00#8, 0x41#8, 0xA2#8, 0x00#8, 0x00#8] ∧
      img = 0x40#8 :: (List.replicate 64 zone).flatten ∧ r = deser Reference.ref .big img ∧ xorAll zone = 0x5D#8 :=
  ⟨rfl, _, _, _, rfl, rfl, rfl, by decide⟩

end Sys2Proof.Tests
end

section
/-! The model's form of R6 (00_scope.md): one step takes one input item, and there is none without an item. -/

namespace Sys2Proof.Machine

/-- Settles O26. The statement writes out the state in which an item is run, which is `State.accept`. -/
theorem stepRunsTheDecodedInstruction : Obligations.StepRunsTheDecodedInstruction := by
  intro s x q hinput
  exact step_cons hinput

/-- Settles O27. -/
theorem noStepWithoutAnInputEvent : Obligations.NoStepWithoutAnInputEvent := by
  intro s hinput
  exact step_nil hinput

end Sys2Proof.Machine
end

section
/-! A step is the run of the events that its item stands for (R6, R88 to R93): what a statement about all steps needs
is a lemma about one event. -/

namespace Sys2Proof.Machine

@[simp] theorem wordStrobes_mkWord (st : BitVec 6) (d : Byte) : wordStrobes (mkWord st d) = st :=
  BitVec.extractLsb'_append_eq_left

@[simp] theorem wordData_mkWord (st : BitVec 6) (d : Byte) : wordData (mkWord st d) = d :=
  BitVec.extractLsb'_append_eq_right

@[simp] theorem ofData_toData (m : Mode) : Mode.ofData m.toData = m := by
  cases m <;> rfl

/-- R90: the row that the position and the byte give is a row they select. -/
theorem rxInstr_selectedBy (p : Params) (q : Selector) (b : Byte) :
    (rxInstr b (rxCase p q b)).selectedBy p q = true := by
  rcases rxCase_cases p q b with
    ⟨_, rfl, hc⟩ | ⟨_, _, hc⟩ | ⟨_, hc⟩ | ⟨_, hc⟩ | ⟨_, rfl, hc⟩ | ⟨_, _, hc⟩ | ⟨_, _, hc⟩ | ⟨_, _, _, hc⟩ |
      ⟨_, _, _, hc⟩ <;>
    simp [hc, rxInstr, Instr.selectedBy]

/-- R90: whatever its row, a received byte is the one event `RXB`. -/
theorem rxInstr_events (p : Params) (q : Selector) (b : Byte) :
    (rxInstr b (rxCase p q b)).events p = [.rxb b] := by
  rcases rxCase_cases p q b with
    ⟨_, rfl, hc⟩ | ⟨_, _, hc⟩ | ⟨_, hc⟩ | ⟨_, hc⟩ | ⟨_, rfl, hc⟩ | ⟨_, _, hc⟩ | ⟨_, _, hc⟩ | ⟨_, _, _, hc⟩ |
      ⟨_, _, _, hc⟩ <;>
    simp [hc, rxInstr, Instr.events]

/-- R90, R141 to R144: an item decodes to a row that the state selects. -/
theorem decode_selectedBy (p : Params) (q : Selector) (x : Input) : (decode p q x).selectedBy p q = true := by
  cases x with
  | word w r =>
    simp only [decode, decodeWord]
    repeat' split
    case isFalse.isFalse.isTrue => exact rxInstr_selectedBy p q _
    all_goals simp_all [Instr.selectedBy]
  | header h =>
    simp only [decode, decodeHeader]
    split <;> rfl
  | line l => cases l <;> rfl

/-- R88: the canonical word of an event stands for that event. -/
theorem decode_eventInput_events (p : Params) (q : Selector) (e : Event) :
    (decode p q (eventInput e)).events p = [e] := by
  cases e <;> simp only [decode, eventInput, decodeWord, wordStrobes_mkWord, wordData_mkWord, ofData_toData]
  case rxb b => exact rxInstr_events p q b
  case txs => cases q.tbusy <;> rfl
  case txp => cases q.tbusy <;> rfl
  all_goals rfl

theorem events_singleton (p : Params) (e : Event) (s : State) : events p [e] s = event p e s := by
  rw [events_cons]
  cases event p e s <;> rfl

/-- A row of `RXB` in a state that selects it is the event `RXB`. -/
theorem whenCase_eq_events {p : Params} {c : RxCase} {b : Byte} {s : State}
    (h : (rxCase p s.selector b == c) = true) : whenCase p c b s (rxEffect p b c) = events p [.rxb b] s := by
  obtain rfl := eq_of_beq h
  exact whenCase_eq_next.mpr ⟨rfl, rfl⟩

/-- R89, R93: an instruction, in a state that selects its row, is the run of its events. -/
theorem execWith_eq_events {p : Params} {i : Instr} {s : State} (h : i.selectedBy p s.selector = true) :
    execWith p i s = events p (i.events p) s := by
  cases i with
  | rst | setmode | rxt | nop | multiStrobe | frameHeader | modeBe | modeNat | rxs | rxframe | txall => rfl
  | rxbStart | rxbJunk | rxbRes | rxbChk | rxbEnd | rxbBadend | rxbPay | rxbLastOk | rxbLastBad =>
    exact whenCase_eq_events h
  | txs res r | txsRefused res r | txp | txpIdle =>
    rw [Instr.events, events_singleton]
    simp_all [Instr.selectedBy, execWith, txs, txsRefused, txp, txpIdle, whenBusy, event, txsEvent, txpEvent]

/-- R6: a step is the run of the events of the item it takes. -/
theorem step_eq_events {s : State} {x : Input} {q : List Input} (h : s.input = x :: q) :
    step s = events Config.params ((decode Config.params s.selector x).events Config.params) (s.accept q) := by
  rw [step_cons h, exec_eq_execWith]
  exact execWith_eq_events (decode_selectedBy _ _ _)

/-- R6: a step that answers a next state took an item. -/
theorem step_takes_item {s t : State} (h : step s = .next t) : ∃ x q, s.input = x :: q :=
  List.exists_cons_of_ne_nil fun hin => by simp [step_nil hin] at h

/-- The canonical words of events run as the events themselves. -/
theorem runEvents_eq_events (es : List Event) (s : State) : runEvents es s = events Config.params es s := by
  induction es generalizing s with
  | nil => rfl
  | cons e es ih =>
    have hone : exec (decode Config.params s.selector (eventInput e)) s = event Config.params e s := by
      rw [exec_eq_execWith, execWith_eq_events (decode_selectedBy _ _ _), decode_eventInput_events, events_singleton]
    rw [events_cons, ← hone]
    exact congrArg (andThen _) (funext ih)

/-! ## Inductions over events, made once -/

/-- What every event keeps, every sequence of events keeps. -/
theorem events_keep {p : Params} {P : State → Prop}
    (hP : ∀ e s t, P s → event p e s = .next t → P t) (es : List Event) {s t : State} (hs : P s)
    (h : events p es s = .next t) : P t := by
  induction es generalizing s with
  | nil => exact Host.Outcome.next.inj h ▸ hs
  | cons e es ih =>
    obtain ⟨s', he, hes⟩ := andThen_eq_next.mp h
    exact ih (hP e s s' hs he) hes

/-- A relation between two runs that every event of `es` keeps holds at the end of `es`, and the second run completes
where the first does. -/
theorem events_simulate {p : Params} {R : State → State → Prop} {es : List Event}
    (hR : ∀ e ∈ es, ∀ s u t, R s u → event p e s = .next t → ∃ v, event p e u = .next v ∧ R t v) {s u t : State}
    (hs : R s u) (h : events p es s = .next t) : ∃ v, events p es u = .next v ∧ R t v := by
  induction es generalizing s u with
  | nil => exact ⟨u, rfl, Host.Outcome.next.inj h ▸ hs⟩
  | cons e es ih =>
    obtain ⟨s', he, hes⟩ := andThen_eq_next.mp h
    obtain ⟨u', hu, hs'⟩ := hR e List.mem_cons_self s u s' hs he
    obtain ⟨v, hv, ht⟩ := ih (fun e' he' => hR e' (List.mem_cons_of_mem _ he')) hs' hes
    exact ⟨v, andThen_eq_next.mpr ⟨u', hu, hv⟩, ht⟩

/-- R163: events without `TXP` give a next state from every state. -/
theorem events_complete (p : Params) {es : List Event} (htxp : .txp ∉ es) (s : State) :
    ∃ t, events p es s = .next t := by
  induction es generalizing s with
  | nil => exact ⟨s, rfl⟩
  | cons e es ih =>
    obtain ⟨hne, hes⟩ := not_or.mp (mt List.mem_cons.mpr htxp)
    rcases event_next_or_fault p e s with ⟨s', hs'⟩ | ⟨rfl, _⟩
    · obtain ⟨t, ht⟩ := ih hes s'
      exact ⟨t, andThen_eq_next.mpr ⟨s', hs', ht⟩⟩
    · exact absurd rfl hne

end Sys2Proof.Machine
end

section
/-! The payload buffers, as bytes come in (R24, R116, R121) and as written bytes are read (R38). -/

namespace Sys2Proof.Machine

theorem xorAll_concat (bs : List Byte) (b : Byte) : xorAll (bs ++ [b]) = xorAll bs ^^^ b := by
  simp [xorAll]

/-- R38: a written byte is no free value, the buffer alone decides it. -/
theorem rbufByte_eq_of_written {s t : State} {i : Nat} (hbuf : t.rbuf = s.rbuf) (h : (s.rbuf.read i).isSome) :
    rbufByte t i = rbufByte s i := by
  obtain ⟨v, hv⟩ := Option.isSome_iff_exists.mp h
  simp [rbufByte, hbuf, hv]

theorem tbufByte_eq_of_written {s t : State} {i : Nat} (hbuf : t.tbuf = s.tbuf) (h : (s.tbuf.read i).isSome) :
    tbufByte t i = tbufByte s i := by
  obtain ⟨v, hv⟩ := Option.isSome_iff_exists.mp h
  simp [tbufByte, hbuf, hv]

theorem rbufByte_storePayload (a i : Nat) (b : Byte) (s : State) :
    rbufByte (storePayload a b s) i = if i = a then b else rbufByte s i := by
  simp only [rbufByte, storePayload_rbuf, storePayload_resets, Memory.read_write]
  split <;> rfl

/-- R116: a byte stored after the first `n` extends them. -/
theorem rbufBytes_storePayload (n : Nat) (b : Byte) (s : State) :
    rbufBytes (storePayload n b s) (n + 1) = rbufBytes s n ++ [b] := by
  have hold : ∀ i ∈ List.range n, rbufByte (storePayload n b s) i = rbufByte s i := fun i hi => by
    rw [rbufByte_storePayload, if_neg (Nat.ne_of_lt (List.mem_range.mp hi))]
  simp [rbufBytes, List.range_succ, rbufByte_storePayload, List.map_congr_left hold]

/-- R38: a buffer written below `n` is written below `n + 1` once the byte at `n` is stored. -/
theorem storePayload_written {n : Nat} {s : State} (h : ∀ i, i < n → (s.rbuf.read i).isSome) (b : Byte) :
    ∀ i, i < n + 1 → ((storePayload n b s).rbuf.read i).isSome := by
  intro i hi
  rw [storePayload_rbuf, Memory.read_write]
  split
  · rfl
  · exact h i (by omega)

theorem write_in {m : Memory} {n a : Nat} (hm : ∀ c ∈ m, c.1 < n) (ha : a < n) (b : Byte) :
    ∀ c ∈ m.write a b, c.1 < n := by
  intro c hc
  rcases Memory.mem_write hc with rfl | hc
  · exact ha
  · exact hm c hc

end Sys2Proof.Machine
end

section
/-! The invariant of R36 and R38: it holds after reset, and every event and so every step keeps it. -/

namespace Sys2Proof

open Sys2Proof.Machine

/-- R35: what a reset clears is enough for the invariant. -/
theorem BlockInv.of_cleared (p : Params) {s : State} (hrpos : s.rpos = 0) (htbusy : s.tbusy = false)
    (htpos : s.tpos = 0) (hrbuf : s.rbuf = []) (htbuf : s.tbuf = []) : BlockInv p s where
  rpos_le := by simp [hrpos]
  tpos_le := by simp [htpos]
  racc_eq := by simp [hrpos]
  rbuf_written := by simp [hrpos]
  tchk_eq := by simp [htbusy]
  tbuf_written := by simp [htbusy]
  tx_idle := fun _ => htpos
  rbuf_wf := hrbuf ▸ .nil
  rbuf_in := by simp [hrbuf]
  tbuf_wf := htbuf ▸ .nil
  tbuf_in := by simp [htbuf]

theorem BlockInv.rstEffect (p : Params) (s : State) : BlockInv p (rstEffect s) := .of_cleared p rfl rfl rfl rfl rfl

/-- Settles O29. -/
theorem resetEstablishesTheInvariant : Obligations.ResetEstablishesTheInvariant := by
  refine ⟨.of_cleared _ rfl rfl rfl rfl rfl, fun s t h => ?_⟩
  obtain rfl : Machine.rstEffect s = t := Host.Outcome.next.inj h
  exact .rstEffect _ s

/-! ## The RX unit -/

section
variable {p : Params} {s : State} (hinv : BlockInv p s)
include hinv

/-- The invariant says nothing of `MODE` and the ports. -/
theorem BlockInv.with_ports (mode : Mode) (input : List Input) (out : List Output) :
    BlockInv p { s with mode := mode, input := input, out := out } :=
  { hinv with }

theorem BlockInv.emit (o : Output) : BlockInv p (emit o s) := hinv.with_ports _ _ _

/-- At a header position the invariant says nothing of the RX registers. -/
theorem BlockInv.at_header {k : Nat} (hk : k < 4) (rres rchk : Byte) (out : List Output) :
    BlockInv p { s with rpos := k, rres := rres, rchk := rchk, out := out } :=
  { hinv with
    rpos_le := by simp only; omega
    racc_eq := fun h4 => absurd hk (Nat.not_lt.mpr h4)
    rbuf_written := fun i hi => by simp only at hi; omega }

theorem BlockInv.raise (e : DecodeErr) : BlockInv p (raise e s) := hinv.at_header (k := 0) (by decide) _ _ _

/-- R115: at the first payload position the accumulator is the XOR of no bytes. -/
theorem BlockInv.endEffect (hL : 1 ≤ p.L) : BlockInv p (endEffect s) :=
  { hinv with
    rpos_le := by simp only [endEffect_rpos]; omega
    racc_eq := fun _ => rfl
    rbuf_written := fun i hi => absurd hi (by simp) }

/-- R116: the accumulator takes the byte that the buffer takes. -/
theorem BlockInv.payEffect (h4 : 4 ≤ s.rpos) (hL : s.rpos ≤ p.L + 2) (b : Byte) : BlockInv p (payEffect b s) := by
  obtain ⟨n, hn⟩ : ∃ n, s.rpos = n + 4 := ⟨s.rpos - 4, by omega⟩
  have hlast : s.rpos - Config.headerLen = n := by rw [hn]; rfl
  have hracc : s.racc = xorAll (rbufBytes s n) := by simpa [hn] using hinv.racc_eq h4
  have hold : ∀ i, i < n → (s.rbuf.read i).isSome := fun i hi => hinv.rbuf_written i (by omega)
  exact { hinv with
    rpos_le := by simp only [payEffect_rpos]; omega
    racc_eq := fun _ => by
      show s.racc ^^^ b = xorAll (rbufBytes (storePayload (s.rpos - Config.headerLen) b s) (s.rpos + 1 - 4))
      rw [hlast, show s.rpos + 1 - 4 = n + 1 by omega, rbufBytes_storePayload, xorAll_concat, hracc]
    rbuf_written := fun i hi => by
      rw [payEffect_rbuf, hlast]
      exact storePayload_written hold b i (by simp only [payEffect_rpos] at hi; omega)
    rbuf_wf := Memory.write_WF hinv.rbuf_wf _ _
    rbuf_in := write_in hinv.rbuf_in (by omega) b }

/-- R117, R118: after the last byte the unit is hunting, with the byte in the buffer. -/
theorem BlockInv.last_stored (hL : 1 ≤ p.L) (b : Byte) (out : List Output) :
    BlockInv p { storePayload (p.L - 1) b s with rpos := 0, out := out } :=
  { hinv with
    rpos_le := Nat.zero_le _
    racc_eq := fun h4 => absurd h4 (by simp)
    rbuf_written := fun i hi => absurd hi (by simp)
    rbuf_wf := Memory.write_WF hinv.rbuf_wf _ _
    rbuf_in := write_in hinv.rbuf_in (by omega) b }

theorem BlockInv.rxb (hL : 1 ≤ p.L) (b : Byte) : BlockInv p (rxb p b s) := by
  rcases rxb_cases p b s with
    ⟨_, _, hs⟩ | ⟨_, _, hs⟩ | ⟨_, hs⟩ | ⟨_, hs⟩ | ⟨_, _, hs⟩ | ⟨_, _, hs⟩ | ⟨h4, hle, hs⟩ | ⟨_, _, _, hs⟩ |
      ⟨_, _, _, hs⟩ <;>
    rw [hs]
  · exact hinv.at_header (k := 1) (by decide) _ _ _
  · exact hinv.raise _
  · exact hinv.at_header (k := 2) (by decide) _ _ _
  · exact hinv.at_header (k := 3) (by decide) _ _ _
  · exact hinv.endEffect hL
  · exact hinv.raise _
  · exact hinv.payEffect h4 hle b
  · exact hinv.last_stored hL b _
  · exact hinv.last_stored hL b _

theorem BlockInv.rxtEffect : BlockInv p (rxtEffect s) := by
  rcases rxtEffect_cases s with ⟨_, hs⟩ | ⟨_, hs⟩ <;> rw [hs]
  · exact hinv
  · exact hinv.raise _

/-! ## The TX unit -/

/-- R141: the buffer is written whole, and `TCHK` is the XOR of what is written. -/
theorem BlockInv.txLatch (res : Byte) (r : ResultValue) : BlockInv p (txLatch p res r s) :=
  { hinv with
    tpos_le := Nat.zero_le _
    tchk_eq := fun _ => by rw [tbufBytes_of_latch, txLatch_tchk]
    tbuf_written := fun _ i hi => by simp [Memory.read_ofBytesFrom, hi]
    tx_idle := fun _ => rfl
    tbuf_wf := Memory.ofBytesFrom_WF _ _
    tbuf_in := fun c hc => by simpa using Memory.ofBytesFrom_upper hc }

/-- R143: the position moves on inside the frame, and is 0 once the frame is sent. -/
theorem BlockInv.txAdvance (hbusy : s.tbusy = true) : BlockInv p (txAdvance p s) := by
  have hle := hinv.tpos_le
  unfold Machine.txAdvance
  split
  · exact { hinv with
      tpos_le := Nat.zero_le _
      tchk_eq := fun h => Bool.noConfusion h
      tbuf_written := fun h => Bool.noConfusion h
      tx_idle := fun _ => rfl }
  · exact { hinv with
      tpos_le := by simp only; omega
      tx_idle := fun hidle => absurd (hbusy.symm.trans hidle) Bool.noConfusion }

theorem BlockInv.txpEvent {t : State} (h : txpEvent p s = .next t) : BlockInv p t := by
  unfold Machine.txpEvent at h
  split at h
  · rcases txSend_cases p s with ⟨b, _, _, hs⟩ | ⟨_, hs⟩
    · obtain rfl := Host.Outcome.next.inj (hs.symm.trans h)
      exact (hinv.emit _).txAdvance ‹s.tbusy = true›
    · exact absurd (hs.symm.trans h) (by simp)
  · exact Host.Outcome.next.inj h ▸ hinv

theorem BlockInv.txsEvent (res : Byte) (r : ResultValue) : BlockInv p (txsEvent p res r s) := by
  unfold Machine.txsEvent
  split
  · exact hinv.emit _
  · exact hinv.txLatch res r

end

/-- R36, R38: every event keeps the invariant. -/
theorem BlockInv.event {p : Params} (hL : 1 ≤ p.L) (e : Event) (s t : State) (hinv : BlockInv p s)
    (h : event p e s = .next t) : BlockInv p t := by
  cases e with
  | txp => exact hinv.txpEvent h
  | rst => exact Host.Outcome.next.inj h ▸ .rstEffect p s
  | setmode m => exact Host.Outcome.next.inj h ▸ hinv.with_ports m s.input s.out
  | rxb b => exact Host.Outcome.next.inj h ▸ hinv.rxb hL b
  | rxt => exact Host.Outcome.next.inj h ▸ hinv.rxtEffect
  | txs res r => exact Host.Outcome.next.inj h ▸ hinv.txsEvent res r
  | nop => exact Host.Outcome.next.inj h ▸ hinv

/-- Settles O30: a step runs the events of its item, and every event keeps the invariant. -/
theorem everyStepKeepsTheInvariant : Obligations.EveryStepKeepsTheInvariant := by
  intro s t hinv hstep
  obtain ⟨x, q, hin⟩ := step_takes_item hstep
  rw [step_eq_events hin] at hstep
  exact events_keep (BlockInv.event Config.params_L_pos) _ (hinv.with_ports s.mode q []) hstep

end Sys2Proof
end

section
/-! What R35 leaves unspecified never reaches an output (R38): two states that differ in it alone answer every event
alike, and differ in it alone afterwards. -/

namespace Sys2Proof.Machine

/-- `s` with other contents where the spec leaves them unspecified: the unwritten bytes of the buffers, which the reset
count `n` indexes, and `TRES`, `TCHK`, `TBUF` while no frame is being sent. -/
def State.respecify (n : Nat) (a c : Byte) (m : Memory) (s : State) : State :=
  { s with
    resets := n
    tres := if s.tbusy then s.tres else a
    tchk := if s.tbusy then s.tchk else c
    tbuf := if s.tbusy then s.tbuf else m }

/-- `s` and `u` differ in unspecified contents alone. -/
def SameButUnspecified (s u : State) : Prop := ∃ n a c m, u = s.respecify n a c m

theorem respecify_of_busy {s : State} (hbusy : s.tbusy = true) (n : Nat) (a c : Byte) (m : Memory) :
    s.respecify n a c m = { s with resets := n } := by
  simp [State.respecify, hbusy]

theorem SameButUnspecified.of_resets (n : Nat) (s : State) : SameButUnspecified s { s with resets := n } :=
  ⟨n, s.tres, s.tchk, s.tbuf, by simp [State.respecify]⟩

theorem SameButUnspecified.out_eq {s u : State} (h : SameButUnspecified s u) : u.out = s.out := by
  obtain ⟨n, a, c, m, rfl⟩ := h
  rfl

section
variable {p : Params} {s : State} (n : Nat) (a c : Byte) (m : Memory)

/-- R117: a frame is published from a payload that has been written whole. -/
theorem publish_respecify (hw : ∀ i, i < p.L → (s.rbuf.read i).isSome) :
    publish p (s.respecify n a c m) = (publish p s).respecify n a c m := by
  have hbytes : rbufBytes (s.respecify n a c m) p.L = rbufBytes s p.L :=
    List.map_congr_left fun i hi => rbufByte_eq_of_written rfl (hw i (List.mem_range.mp hi))
  simp only [publish, hbytes]
  rfl

/-- R90: the last payload byte comes at the last position. -/
theorem rpos_of_lastOk {q : Selector} {b : Byte} (h : rxCase p q b = .lastOk) : p.L + 3 ≤ q.rpos := by
  obtain ⟨_, hlast, _⟩ := by simpa [h] using rxCase_cases p q b
  exact hlast

theorem rxb_respecify (hL : 1 ≤ p.L) (hinv : BlockInv p s) (b : Byte) :
    rxb p b (s.respecify n a c m) = (rxb p b s).respecify n a c m := by
  show rxEffect p b (rxCase p s.selector b) (s.respecify n a c m) =
    (rxEffect p b (rxCase p s.selector b) s).respecify n a c m
  cases hc : rxCase p s.selector b
  case lastOk =>
    have hlast : p.L + 3 ≤ s.rpos := rpos_of_lastOk hc
    have hold : ∀ i, i < p.L - 1 → (s.rbuf.read i).isSome := fun i hi => hinv.rbuf_written i (by omega)
    exact publish_respecify n a c m fun i hi => storePayload_written hold b i (by omega)
  all_goals rfl

theorem rxtEffect_respecify : rxtEffect (s.respecify n a c m) = (rxtEffect s).respecify n a c m := by
  unfold rxtEffect
  rw [apply_ite (State.respecify n a c m)]
  rfl

/-- R141: an accepted `TXS` writes whatever is unspecified while idle. -/
theorem txsEvent_respecify (res : Byte) (r : ResultValue) :
    txsEvent p res r (s.respecify n a c m) = (txsEvent p res r s).respecify n a c m := by
  unfold txsEvent
  rw [apply_ite (State.respecify n a c m)]
  rfl

/-- R145: a frame being sent has been written whole. -/
theorem frameByte_respecify (hinv : BlockInv p s) (hbusy : s.tbusy = true) (k : Nat) :
    frameByte p (s.respecify n a c m) k = frameByte p s k := by
  rw [respecify_of_busy hbusy]
  unfold frameByte
  split_ifs with h0 h1 h2 h3 hk
  · rfl
  · rfl
  · rfl
  · rfl
  · have hin : k - Config.headerLen < p.L := by simp only [Config.headerLen]; omega
    exact congrArg some (tbufByte_eq_of_written rfl (hinv.tbuf_written hbusy _ hin))
  · rfl

end

theorem txAdvance_respecify {p : Params} {s : State} (hbusy : s.tbusy = true) (n : Nat) (a c : Byte) (m : Memory) :
    SameButUnspecified (txAdvance p s) (txAdvance p (s.respecify n a c m)) := by
  rw [respecify_of_busy hbusy]
  unfold txAdvance
  dsimp only
  split
  · exact .of_resets n _
  · exact .of_resets n _

/-- R143: a byte handed over does not depend on unspecified contents. -/
theorem txpEvent_sameButUnspecified {p : Params} {s u t : State} (hinv : BlockInv p s) (hu : SameButUnspecified s u)
    (h : txpEvent p s = .next t) : ∃ v, txpEvent p u = .next v ∧ SameButUnspecified t v := by
  obtain ⟨n, a, c, m, rfl⟩ := hu
  cases hbusy : s.tbusy with
  | false =>
    obtain rfl : s = t := by simpa [txpEvent, hbusy] using h
    exact ⟨_, if_neg (by simp [State.respecify, hbusy]), n, a, c, m, rfl⟩
  | true =>
    rcases txSend_cases p s with ⟨b, _, hb, hs⟩ | ⟨_, hs⟩ <;> simp only [txpEvent, hbusy, if_true, hs] at h
    · obtain rfl := Host.Outcome.next.inj h
      refine ⟨txAdvance p (emit (.txByte b) (s.respecify n a c m)), ?_,
        txAdvance_respecify (s := emit (.txByte b) s) hbusy n a c m⟩
      show (if s.tbusy = true then txSend p (s.respecify n a c m) else _) = _
      rw [if_pos hbusy, txSend, show (s.respecify n a c m).tpos = s.tpos from rfl,
        frameByte_respecify n a c m hinv hbusy, hb]
    · cases h

theorem event_sameButUnspecified {p : Params} (hL : 1 ≤ p.L) (e : Event) {s u t : State} (hinv : BlockInv p s)
    (hu : SameButUnspecified s u) (h : event p e s = .next t) :
    ∃ v, event p e u = .next v ∧ SameButUnspecified t v := by
  cases e
  case txp => exact txpEvent_sameButUnspecified hinv hu h
  all_goals
    obtain ⟨n, a, c, m, rfl⟩ := hu
    obtain rfl := Host.Outcome.next.inj h
    refine ⟨_, rfl, ?_⟩
  case rst => exact ⟨n + 1, Config.freeTres n, Config.freeTchk n, [], rfl⟩
  case setmode | nop => exact ⟨n, a, c, m, rfl⟩
  case rxb b => exact ⟨n, a, c, m, rxb_respecify n a c m hL hinv b⟩
  case rxt => exact ⟨n, a, c, m, rxtEffect_respecify n a c m⟩
  case txs => exact ⟨n, a, c, m, txsEvent_respecify n a c m _ _⟩

/-- Settles O35: both steps run the same events, since the selector holds nothing unspecified. -/
theorem outputsIgnoreUnspecifiedContents : Obligations.OutputsIgnoreUnspecifiedContents := by
  intro s t n a c m hinv hstep
  obtain ⟨x, q, hin⟩ := step_takes_item hstep
  rw [step_eq_events hin] at hstep
  obtain ⟨u, hu, -, hsame⟩ := events_simulate
    (R := fun s u => BlockInv Config.params s ∧ SameButUnspecified s u)
    (fun e _ s u t hs he =>
      have hL := Config.params_L_pos
      have ⟨v, hv, ht⟩ := event_sameButUnspecified hL e hs.1 hs.2 he
      ⟨v, hv, hs.1.event hL e s t he, ht⟩)
    ⟨hinv.with_ports s.mode q [], n, a, c, m, rfl⟩ hstep
  exact ⟨u, (step_eq_events (s := s.respecify n a c m) hin).trans hu, hsame.out_eq⟩

end Sys2Proof.Machine
end

section
/-! `MODE` and the RX unit (R31): two states that differ in `MODE` alone take the same RX events alike, but for the view
of a published frame. -/

namespace Sys2Proof.Machine

/-- `s` is in the mode `m`, and `u` differs from it in being in the mode `m'` and in the views of its outputs alone. -/
def SameButMode (m m' : Mode) (s u : State) : Prop :=
  s.mode = m ∧ ∃ o, u = { s with mode := m', out := o } ∧ o.map eraseView = s.out.map eraseView

section
variable {m m' : Mode} {s u : State} (h : SameButMode m m' s u)
include h

theorem SameButMode.raise (e : DecodeErr) : SameButMode m m' (raise e s) (raise e u) := by
  obtain ⟨hm, o, rfl, ho⟩ := h
  exact ⟨hm, o ++ [.err e], rfl, by simp [ho]⟩

theorem SameButMode.storePayload (a : Nat) (b : Byte) :
    SameButMode m m' (storePayload a b s) (storePayload a b u) := by
  obtain ⟨hm, o, rfl, ho⟩ := h
  exact ⟨hm, o, rfl, ho⟩

/-- R117, R125: the packet is the same, and `MODE` gives the view. -/
theorem SameButMode.publish (p : Params) : SameButMode m m' (publish p s) (publish p u) := by
  obtain ⟨hm, o, rfl, ho⟩ := h
  exact ⟨hm, o ++ [_], rfl, by simp only [publish_out, List.map_append, ho]; rfl⟩

theorem SameButMode.rxEffect (p : Params) (b : Byte) (c : RxCase) :
    SameButMode m m' (rxEffect p b c s) (rxEffect p b c u) := by
  have hreg := h
  obtain ⟨hm, o, rfl, ho⟩ := hreg
  cases c with
  | start | res | chk | endOk | pay => exact ⟨hm, o, rfl, ho⟩
  | junk | badEnd => exact h.raise _
  | lastOk => exact (h.storePayload _ b).publish p
  | lastBad => exact (h.storePayload _ b).raise _

/-- R31, R90: no sub-case is chosen by `MODE`. -/
theorem SameButMode.selector_eq : u.selector = s.selector := by
  obtain ⟨_, _, rfl, _⟩ := h
  rfl

theorem SameButMode.rxtEffect : SameButMode m m' (rxtEffect s) (rxtEffect u) := by
  have hpos : u.rpos = s.rpos := congrArg Selector.rpos h.selector_eq
  unfold Machine.rxtEffect
  rw [hpos]
  split
  · exact h
  · exact h.raise _

/-- R31: an RX event keeps the two states the same but for `MODE`. -/
theorem SameButMode.event {p : Params} {e : Event} (hrx : e.isRx = true) {t : State} (ht : event p e s = .next t) :
    ∃ v, event p e u = .next v ∧ SameButMode m m' t v := by
  cases e with
  | rxb b =>
    obtain rfl := Host.Outcome.next.inj ht
    refine ⟨_, rfl, ?_⟩
    unfold rxb
    rw [h.selector_eq]
    exact h.rxEffect p b _
  | rxt =>
    obtain rfl := Host.Outcome.next.inj ht
    exact ⟨_, rfl, h.rxtEffect⟩
  | _ => cases hrx

end

/-- Settles O36: RX events always complete, and each keeps the two runs the same but for `MODE`. -/
theorem modeOnlyAffectsTheResultView : Obligations.ModeOnlyAffectsTheResultView := by
  intro es s m hrx
  simp only [runEvents_eq_events]
  obtain ⟨t, ht⟩ := events_complete Config.params (fun htxp => Bool.noConfusion (hrx .txp htxp)) s
  obtain ⟨u, hu, hmode, o, rfl, hviews⟩ := events_simulate (R := SameButMode s.mode m)
    (fun e he _ _ _ hsame hnext => hsame.event (hrx e he) hnext) (u := { s with mode := m }) ⟨rfl, s.out, rfl, rfl⟩ ht
  exact ⟨t, _, ht, hu, by rw [← hmode], hviews⟩

end Sys2Proof.Machine
end

section
/-! Fields (R53, R54, R8): the little-endian form is a recursion on the bytes, the big-endian form is its reverse. -/

namespace Sys2Proof.Machine

theorem byteOf_toNat (u k : Nat) : (byteOf u k).toNat = u / 2 ^ (8 * k) % 256 := by
  simp [byteOf, Nat.shiftRight_eq_div_pow]

theorem byteOf_succ (u k : Nat) : byteOf u (k + 1) = byteOf (u / 256) k := by
  apply BitVec.eq_of_toNat_eq
  rw [byteOf_toNat, byteOf_toNat, Nat.div_div_eq_div_mul, Nat.mul_succ, Nat.add_comm, Nat.pow_add]

/-- The least significant byte comes first. -/
theorem serField_little_succ (w u : Nat) :
    serField .little (w + 1) u = byteOf u 0 :: serField .little w (u / 256) := by
  simp [serField, bytePlace, List.range_succ_eq_map, byteOf_succ, Function.comp_def]

theorem deserField_little_cons (w : Nat) (b : Byte) (s : List Byte) :
    deserField .little (w + 1) (b :: s) = b.toNat + 256 * deserField .little w s := by
  have hplace : ∀ i, 2 ^ (8 * (i + 1)) = 256 * 2 ^ (8 * i) := fun i => by rw [Nat.mul_succ, Nat.pow_add, Nat.mul_comm]
  simp [deserField, bytePlace, List.range_succ_eq_map, hplace, Function.comp_def, ← List.sum_map_mul_left,
    Nat.mul_left_comm]

/-- R53: the big-endian bytes are the little-endian bytes from the last to the first. -/
theorem serField_big (w u : Nat) : serField .big w u = (serField .little w u).reverse := by
  apply List.ext_getElem (by simp)
  intro i _ _
  simp [serField, bytePlace]

/-- R54: and so they are read. -/
theorem deserField_big {w : Nat} {s : List Byte} (hs : s.length = w) :
    deserField .big w s = deserField .little w s.reverse := by
  unfold deserField
  rw [← List.sum_reverse]
  congr 1
  apply List.ext_getElem (by simp)
  intro i hi _
  have hw : i < w := by simpa using hi
  have hplace : w - 1 - (w - 1 - i) = i := by omega
  have hlast : w - 1 - i < s.length := by omega
  simp [bytePlace, hs, hw, hplace, List.getElem?_eq_getElem hlast]

theorem deserField_little_serField {w u : Nat} (hu : u < 2 ^ (8 * w)) :
    deserField .little w (serField .little w u) = u := by
  induction w generalizing u with
  | zero =>
    obtain rfl : u = 0 := by simpa using hu
    rfl
  | succ w ih =>
    have hdiv : u / 256 < 2 ^ (8 * w) := Nat.div_lt_of_lt_mul (by rwa [Nat.mul_succ, Nat.add_comm, Nat.pow_add] at hu)
    rw [serField_little_succ, deserField_little_cons, ih hdiv, byteOf_toNat]
    simpa using Nat.mod_add_div u 256

theorem serField_little_deserField (s : List Byte) : serField .little s.length (deserField .little s.length s) = s := by
  induction s with
  | nil => rfl
  | cons b s ih =>
    have hlow : byteOf (b.toNat + 256 * deserField .little s.length s) 0 = b := by
      apply BitVec.eq_of_toNat_eq
      rw [byteOf_toNat]
      have := b.isLt
      omega
    have hrest : (b.toNat + 256 * deserField .little s.length s) / 256 = deserField .little s.length s := by
      have := b.isLt
      omega
    rw [List.length_cons, deserField_little_cons, serField_little_succ, hlow, hrest, ih]

/-- R54: reading a field back, in either order. -/
theorem deserField_serField (o : ByteOrder) {w u : Nat} (hu : u < 2 ^ (8 * w)) :
    deserField o w (serField o w u) = u := by
  cases o with
  | little => exact deserField_little_serField hu
  | big => rw [deserField_big (serField_length _ _ _), serField_big, List.reverse_reverse, deserField_little_serField hu]

/-- R54: `w` bytes are the bytes of the pattern read from them, in either order. -/
theorem serField_deserField (o : ByteOrder) {w : Nat} {s : List Byte} (hs : s.length = w) :
    serField o w (deserField o w s) = s := by
  subst hs
  cases o with
  | little => exact serField_little_deserField s
  | big =>
    have h := serField_little_deserField s.reverse
    rw [List.length_reverse] at h
    rw [deserField_big rfl, serField_big, h, List.reverse_reverse]

/-- R57: read in the other order, a field comes back with its bytes reversed. -/
theorem deserField_serField_of_ne {o o' : ByteOrder} (h : o ≠ o') (w u : Nat) :
    deserField o' w (serField o w u) = deserField .big w (serField .big w u).reverse := by
  rw [deserField_big (by simp), List.reverse_reverse]
  cases o <;> cases o'
  case big.little => rfl
  case little.big => rw [deserField_big (by simp), serField_big]
  all_goals exact absurd rfl h

theorem serField_getElem? (o : ByteOrder) {w i : Nat} (u : Nat) (hi : i < w) :
    (serField o w u)[i]? = some (byteOf u (bytePlace o w i)) := by
  simp [serField, hi]

/-- Settles O40: `byteOf` is the spec's slice of the pattern, and both orders are read back. -/
theorem fieldBytesReadBack : Obligations.FieldBytesReadBack := by
  intro w u hu
  refine ⟨fun i hi => ?_, deserField_serField .big hu, deserField_serField .little hu⟩
  simp only [serField_getElem? _ u hi, Option.map_some, byteOf_toNat, bytePlace, and_self]

/-- R8: a pattern of `n` bits is not changed by `zext`. -/
theorem zext_of_lt {n u : Nat} (hu : u < 2 ^ n) : zext n u = u := by
  rw [zext, Nat.mod_eq_of_lt hu]

/-- R8: of `n` bits the upper half of the patterns, those with the sign bit set, is read as negative. -/
theorem sext_eq_toInt {n u : Nat} (hn : 1 ≤ n) (hu : u < 2 ^ n) : sext n u = (BitVec.ofNat n u).toInt := by
  have htwice : 2 ^ n = 2 * 2 ^ (n - 1) := by rw [← Nat.pow_succ', Nat.succ_eq_add_one, Nat.sub_add_cancel hn]
  have hsign : u < 2 ^ (n - 1) ↔ 2 * u < 2 ^ n := by omega
  simp only [sext, BitVec.toInt, BitVec.toNat_ofNat, Nat.mod_eq_of_lt hu, hsign]

/-- Settles O41: `sext` is the library's two's complement reading. -/
theorem signedFieldsAreTwosComplement : Obligations.SignedFieldsAreTwosComplement := by
  intro w u hw hu
  exact ⟨sext_eq_toInt (by omega) hu, zext_of_lt hu, zext_of_lt hu⟩

end Sys2Proof.Machine
end

section
/-! The image of a Result (R55, R56, R57): each payload offset is a byte of the one field that covers it, or a gap. -/

namespace Sys2Proof.Machine

theorem not_apart_of_covers {f g : LayoutField} {o : Nat} (hf : f.Covers o) (hg : g.Covers o) : ¬ f.Apart g := by
  simp only [LayoutField.Covers, LayoutField.Apart] at *
  omega

theorem slice_getElem? {img : List Byte} {off w i : Nat} (hi : i < w) (hin : off + i < img.length) :
    (slice img off w)[i]? = img[off + i]? := by
  simp [slice, hi, List.getElem?_eq_getElem hin]

section
variable {p : Params} (hp : p.WF)
include hp

/-- R5: no two fields cover one offset, so that the first to cover it is the only one. -/
theorem findIdx?_covers {k o : Nat} {f : LayoutField} (hf : p.layout[k]? = some f) (hcov : f.Covers o) :
    p.layout.findIdx? (fun g => decide (g.Covers o)) = some k := by
  obtain ⟨hk, rfl⟩ := List.getElem?_eq_some_iff.mp hf
  obtain ⟨_, _, hapart⟩ := hp
  refine List.findIdx?_eq_some_iff_getElem.mpr ⟨hk, decide_eq_true hcov, fun j hj hfirst => ?_⟩
  exact not_apart_of_covers (of_decide_eq_true hfirst) hcov (List.pairwise_iff_getElem.mp hapart j k _ hk hj)

/-- R55: the byte at an offset inside a field. -/
theorem serByte_of_covers {k i : Nat} {f : LayoutField} (hf : p.layout[k]? = some f) (hi : i < f.w) (m : Mode)
    (r : ResultValue) : serByte p m r (f.off + i) = byteOf (r.pattern k) (bytePlace (order p m) f.w i) := by
  have hcov : f.Covers (f.off + i) := ⟨Nat.le_add_right _ _, Nat.add_lt_add_left hi _⟩
  simp only [serByte, findIdx?_covers hp hf hcov, hf, Nat.add_sub_cancel_left]

/-- R5: a field lies inside the payload. -/
theorem offset_lt {k i : Nat} {f : LayoutField} (hf : p.layout[k]? = some f) (hi : i < f.w) : f.off + i < p.L := by
  obtain ⟨_, hin, _⟩ := hp
  have hend := hin f (List.mem_of_getElem? hf)
  omega

/-- R57: inside a field the image holds the bytes of R53. -/
theorem ser_getElem?_field {k i : Nat} {f : LayoutField} (hf : p.layout[k]? = some f) (hi : i < f.w) (m : Mode)
    (r : ResultValue) : (ser p m r)[f.off + i]? = (serField (order p m) f.w (r.pattern k))[i]? := by
  have hin : f.off + i < p.L := offset_lt hp hf hi
  rw [serField_getElem? _ _ hi, ← serByte_of_covers hp hf hi]
  simp [ser, hin]

/-- R9: so a field of the image is the bytes of R53. -/
theorem slice_ser {k : Nat} {f : LayoutField} (hf : p.layout[k]? = some f) (m : Mode) (r : ResultValue) :
    slice (ser p m r) f.off f.w = serField (order p m) f.w (r.pattern k) := by
  apply List.ext_getElem?'
  intro i hi
  have hi : i < f.w := by simpa using hi
  have hin : f.off + i < (ser p m r).length := by
    rw [ser_length]
    exact offset_lt hp hf hi
  rw [slice_getElem? hi hin, ser_getElem?_field hp hf hi]

end

/-- R55: the byte at a gap offset. -/
theorem serByte_of_gap {p : Params} {o : Nat} (ho : o ∈ p.gapOffsets) (m : Mode) (r : ResultValue) :
    serByte p m r o = r.gap o := by
  obtain ⟨_, hgap⟩ := (p.mem_gapOffsets o).mp ho
  have hnone : p.layout.findIdx? (fun f => decide (f.Covers o)) = none :=
    List.findIdx?_eq_none_iff.mpr fun f hf => decide_eq_false (hgap f hf)
  simp only [serByte, hnone]

/-- R55: an offset of the image lies in a field or is a gap offset. -/
theorem covered_or_gap {p : Params} {o : Nat} (ho : o < p.L) :
    (∃ (k i : Nat) (f : LayoutField), p.layout[k]? = some f ∧ i < f.w ∧ o = f.off + i) ∨ o ∈ p.gapOffsets := by
  by_cases hcov : ∃ f ∈ p.layout, f.Covers o
  · obtain ⟨f, hf, hle, hlt⟩ := hcov
    obtain ⟨k, hk⟩ := List.mem_iff_getElem?.mp hf
    exact .inl ⟨k, o - f.off, f, hk, by omega, by omega⟩
  · exact .inr ((p.mem_gapOffsets o).mpr ⟨ho, fun f hf hc => hcov ⟨f, hf, hc⟩⟩)

theorem gapOffsets_nodup (p : Params) : p.gapOffsets.Nodup := List.nodup_range.filter _

/-- R55: where each offset is listed once, `gap` reads the byte listed with it. -/
theorem gap_of_mem {r : ResultValue} (hkeys : (r.gaps.map Prod.fst).Nodup) {c : Nat × Byte} (hc : c ∈ r.gaps) :
    r.gap c.1 = c.2 := by
  cases hfind : r.gaps.find? (fun d => d.1 == c.1) with
  | none => exact absurd (List.find?_eq_none.mp hfind c hc) (by simp)
  | some d =>
    have hkey : d.1 = c.1 := by simpa using List.find?_some hfind
    obtain rfl : d = c := List.inj_on_of_nodup_map hkeys (List.mem_of_find?_eq_some hfind) hc hkey
    simp only [ResultValue.gap, hfind]

/-- R55: the canonical form lists each gap offset with the byte that `gap` reads. -/
theorem gaps_eq_map_gap {p : Params} {r : ResultValue} (hr : r.WF p) :
    p.gapOffsets.map (fun o => (o, r.gap o)) = r.gaps := by
  obtain ⟨_, _, hgaps⟩ := hr
  have hread : ∀ c ∈ r.gaps, (c.1, r.gap c.1) = c := fun c hc =>
    Prod.ext rfl (gap_of_mem (hgaps ▸ gapOffsets_nodup p) hc)
  rw [← hgaps, List.map_map]
  exact (List.map_congr_left hread).trans (List.map_id _)

/-- R56, R57: the gap bytes come back as they were, in whatever mode they are read. -/
theorem deser_ser_gaps {p : Params} {r : ResultValue} (hr : r.WF p) (m m' : Mode) :
    (deser p m' (ser p m r)).gaps = r.gaps := by
  rw [← gaps_eq_map_gap hr]
  refine List.map_congr_left fun o ho => ?_
  obtain ⟨hL, _⟩ := (p.mem_gapOffsets o).mp ho
  simp [ser, hL, serByte_of_gap ho]

/-- R56: each field of the view is read from the bytes that R53 gives it. -/
theorem deser_ser_fields {p : Params} (hp : p.WF) {r : ResultValue} (hr : r.WF p) (m m' : Mode) :
    (deser p m' (ser p m r)).fields =
      p.layout.zipWith (fun f u => deserField (order p m') f.w (serField (order p m) f.w u)) r.fields := by
  obtain ⟨hlen, _, _⟩ := hr
  apply List.ext_getElem (by simp [deser, hlen])
  intro k hk _
  have hk' : k < p.layout.length := by simpa [deser] using hk
  simp [deser, slice_ser hp (List.getElem?_eq_getElem hk'), ResultValue.pattern, hlen, hk']

/-- R57: in one mode every Result value comes back. -/
theorem deser_ser {p : Params} (hp : p.WF) {r : ResultValue} (hr : r.WF p) (m : Mode) :
    deser p m (ser p m r) = r := by
  have ⟨hlen, hpat, _⟩ := hr
  have hfields : (deser p m (ser p m r)).fields = r.fields := by
    rw [deser_ser_fields hp hr]
    apply List.ext_getElem (by simp [hlen])
    intro k hk hk'
    have hlt := hpat (p.layout[k]'(hlen ▸ hk'), r.fields[k]) (List.mem_iff_getElem.mpr ⟨k, by simpa using hk, by simp⟩)
    simpa using deserField_serField (order p m) hlt
  exact congrArg₂ ResultValue.mk hfields (deser_ser_gaps hr m m)

theorem deser_pattern {p : Params} {k : Nat} {f : LayoutField} (hf : p.layout[k]? = some f) (m : Mode)
    (img : List Byte) : (deser p m img).pattern k = deserField (order p m) f.w (slice img f.off f.w) := by
  simp [ResultValue.pattern, deser, hf]

theorem deser_gap {p : Params} {o : Nat} (ho : o ∈ p.gapOffsets) (m : Mode) (img : List Byte) :
    (deser p m img).gap o = img.getD o 0 := by
  have hkeys : ((deser p m img).gaps.map Prod.fst).Nodup := by
    simpa [deser, Function.comp_def] using gapOffsets_nodup p
  exact gap_of_mem hkeys (List.mem_map.mpr ⟨o, ho, rfl⟩)

/-- R57: in one mode every image comes back. -/
theorem ser_deser {p : Params} (hp : p.WF) {img : List Byte} (himg : img.length = p.L) (m : Mode) :
    ser p m (deser p m img) = img := by
  apply List.ext_getElem?'
  intro o ho
  have ho : o < p.L := by simpa [himg] using ho
  rcases covered_or_gap ho with ⟨k, i, f, hf, hi, rfl⟩ | hgap
  · rw [ser_getElem?_field hp hf hi, deser_pattern hf, serField_deserField _ (slice_length _ _ _),
      slice_getElem? hi (himg ▸ ho)]
  · simp [ser, ho, serByte_of_gap hgap, deser_gap hgap, himg]

/-- Settles O42: every payload offset is one byte of one field or a gap, so what holds of one field's bytes and of one gap
byte holds of the image. -/
theorem serialisationIsInvertible : Obligations.SerialisationIsInvertible := by
  intro p hp m m'
  refine ⟨fun r hr => ⟨deser_ser hp hr m, fun hne => ⟨deser_ser_gaps hr m m', ?_⟩⟩,
    fun img himg => ser_deser hp himg m, fun r k i f hf hi => ser_getElem?_field hp hf hi m r⟩
  simp only [deser_ser_fields hp hr, deserField_serField_of_ne hne]

end Sys2Proof.Machine
end

section
/-! The two units (R37, R62): an event of one unit reads and writes that unit's registers alone, reads `MODE`, and emits
at most one event, of that unit. -/

namespace Sys2Proof.Machine

/-- `s` with the RX registers of `rx`, the TX registers of `tx` and the outputs `o`; `MODE` and the model's own fields
stay. -/
def State.withUnits (s rx tx : State) (o : List Output) : State :=
  { s with
    rpos := rx.rpos, rres := rx.rres, rchk := rx.rchk, racc := rx.racc, rbuf := rx.rbuf
    tbusy := tx.tbusy, tpos := tx.tpos, tres := tx.tres, tchk := tx.tchk, tbuf := tx.tbuf
    out := o }

/-- `put u v o` is a state with one unit's registers from `u`, the other's from `v`, and the outputs `o`. Where the first
unit's registers are those of `u`, `f` makes them those of `u'` and emits `os`, at most one event and of the first unit,
whatever `v` and `o`. -/
def UnitAction (put : State → State → List Output → State) (mine : Output → Bool)
    (f : State → Host.Outcome State Fault Refusal) (u : State) : Prop :=
  ∃ (u' : State) (os : List Output), os.length ≤ 1 ∧ (∀ w ∈ os, mine w = true) ∧
    ∀ v o, f (put u v o) = .next (put u' v (o ++ os))

section
variable {put : State → State → List Output → State} {mine : Output → Bool}
  {f : State → Host.Outcome State Fault Refusal} {u : State}

theorem UnitAction.silent (u' : State) (h : ∀ v o, f (put u v o) = .next (put u' v o)) : UnitAction put mine f u :=
  ⟨u', [], Nat.zero_le _, by simp, fun v o => by rw [h, List.append_nil]⟩

theorem UnitAction.emits (u' : State) (w : Output) (hw : mine w = true)
    (h : ∀ v o, f (put u v o) = .next (put u' v (o ++ [w]))) : UnitAction put mine f u :=
  ⟨u', [w], Nat.le_refl _, by simpa using hw, h⟩

end

/-- R37: `f` acts on the RX unit of `s` alone, where its registers are those of `rx`. -/
abbrev RxAction (s : State) (f : State → Host.Outcome State Fault Refusal) (rx : State) : Prop :=
  UnitAction s.withUnits Output.isRx f rx

/-- R37: `f` acts on the TX unit of `s` alone, where its registers are those of `tx`. -/
abbrev TxAction (s : State) (f : State → Host.Outcome State Fault Refusal) (tx : State) : Prop :=
  UnitAction (fun tx rx => s.withUnits rx tx) (fun w => !w.isRx) f tx

/-! ## The RX unit -/

/-- R117: the frame that `publish` emits. -/
def publishedFrame (p : Params) (s : State) : Output :=
  .frame (rxPacket s (rbufBytes s p.L)) (deser p s.mode (rbufBytes s p.L))

theorem publish_eq_emit (p : Params) (s : State) : publish p s = emit (publishedFrame p s) { s with rpos := 0 } := rfl

theorem rxAction_rxEffect (p : Params) (b : Byte) (c : RxCase) (s rx : State) :
    RxAction s (fun t => .next (rxEffect p b c t)) rx := by
  cases c with
  | start => exact .silent (startEffect rx) fun _ _ => rfl
  | junk => exact .emits (junkEffect b rx) (.err (.framing 0 b)) rfl fun _ _ => rfl
  | res => exact .silent (resEffect b rx) fun _ _ => rfl
  | chk => exact .silent (chkEffect b rx) fun _ _ => rfl
  | endOk => exact .silent (endEffect rx) fun _ _ => rfl
  | badEnd => exact .emits (badendEffect b rx) (.err (.framing 3 b)) rfl fun _ _ => rfl
  | pay => exact .silent (payEffect b rx) fun _ _ => rfl
  | lastOk =>
    refine .emits (lastOkEffect p b rx) (publishedFrame p (storePayload (p.L - 1) b (s.withUnits rx s []))) rfl
      fun tx o => ?_
    rw [rxEffect, lastOkEffect_eq, publish_eq_emit]
    rfl
  | lastBad => exact .emits (lastBadEffect p b rx) (.err (.checksum rx.rchk (rx.racc ^^^ b))) rfl fun _ _ => rfl

/-- R37, R62: an RX event acts on the RX unit alone. -/
theorem rxAction_event {e : Event} (he : e.isRx = true) (p : Params) (s rx : State) : RxAction s (event p e) rx := by
  cases e with
  | rxb b => exact rxAction_rxEffect p b (rxCase p rx.selector b) s rx
  | rxt =>
    by_cases hpos : rx.rpos = 0
    · exact .silent rx fun _ _ => congrArg _ (if_pos hpos)
    · exact .emits { rx with rpos := 0 } (.err (.truncated rx.rpos)) rfl fun _ _ => congrArg _ (if_neg hpos)
  | _ => cases he

/-! ## The TX unit -/

theorem txAdvance_withUnits (p : Params) (s rx tx : State) (o : List Output) :
    txAdvance p (s.withUnits rx tx o) = s.withUnits rx (txAdvance p tx) o := by
  unfold txAdvance
  rw [apply_ite (s.withUnits rx · o)]
  rfl

/-- R143, R145: the position and the bytes of the frame being sent are in the TX registers. -/
theorem txAction_txSend (p : Params) (s tx : State) :
    (∃ r, ∀ rx o, txSend p (s.withUnits rx tx o) = .fault r) ∨ TxAction s (txSend p) tx := by
  have hbyte : ∀ rx o, frameByte p (s.withUnits rx tx o) (s.withUnits rx tx o).tpos =
    frameByte p (s.withUnits s tx []) tx.tpos := fun _ _ => rfl
  cases h : frameByte p (s.withUnits s tx []) tx.tpos with
  | some b =>
    refine .inr (.emits (txAdvance p tx) (.txByte b) rfl fun rx o => ?_)
    rw [← txAdvance_withUnits, txSend, hbyte, h]
    rfl
  | none => exact .inl ⟨.txPositionOutsideFrame, fun rx o => by rw [txSend, hbyte, h]⟩

/-- R37, R62: a TX event faults whatever the RX unit holds, or acts on the TX unit alone. -/
theorem txAction_event {e : Event} (he : e.isTx = true) (p : Params) (s tx : State) :
    (∃ r, ∀ rx o, event p e (s.withUnits rx tx o) = .fault r) ∨ TxAction s (event p e) tx := by
  cases e with
  | txs res r =>
    cases hbusy : tx.tbusy with
    | true => exact .inr (.emits tx .txRefused rfl fun _ _ => congrArg _ (if_pos hbusy))
    | false =>
      exact .inr (.silent (txLatch p res r { tx with mode := s.mode }) fun _ _ =>
        congrArg _ (if_neg (hbusy.trans_ne Bool.false_ne_true)))
  | txp =>
    cases hbusy : tx.tbusy with
    | true =>
      have hsend : ∀ rx o, event p .txp (s.withUnits rx tx o) = txSend p (s.withUnits rx tx o) := fun _ _ =>
        if_pos hbusy
      simpa only [TxAction, UnitAction, hsend] using txAction_txSend p s tx
    | false => exact .inr (.silent tx fun _ _ => if_neg (hbusy.trans_ne Bool.false_ne_true))
  | _ => cases he

/-- Settles O37: each event acts on its own unit alone, so that only the order of the outputs differs. -/
theorem rxAndTxEventsCommute : Obligations.RxAndTxEventsCommute := by
  intro s x y hrx htx
  simp only [runEvents_eq_events, events_cons]
  obtain ⟨rx, rxOut, -, hrxOut, hx⟩ := rxAction_event hrx Config.params s s
  have hxs : event Config.params x s = .next (s.withUnits rx s (s.out ++ rxOut)) := hx s s.out
  rcases txAction_event htx Config.params s s with ⟨r, hy⟩ | ⟨tx, txOut, -, htxOut, hy⟩
  · have hys : event Config.params y s = .fault r := hy s s.out
    simp [hxs, hys, hy, andThen]
  · have hys : event Config.params y s = .next (s.withUnits s tx (s.out ++ txOut)) := hy s s.out
    simp only [hxs, hys, hx, hy, andThen_next, events_singleton]
    have hrxSide : rxOut.filter (fun w => !w.isRx) = [] := by simpa using hrxOut
    have htxSide : txOut.filter Output.isRx = [] := by simpa using htxOut
    refine ⟨fun t ht => ?_, fun _ _ => ⟨_, rfl⟩⟩
    obtain rfl := Host.Outcome.next.inj ht
    refine ⟨_, rfl, rfl, ?_, ?_⟩
    · simp only [State.withUnits, List.filter_append, htxSide, List.append_nil]
    · simp only [State.withUnits, List.filter_append, hrxSide, List.append_nil]

end Sys2Proof.Machine
end

section
/-! A step input word is its strobes' events (R88, R89), so what a word does is bounded by its strobes (R52, R63). -/

namespace Sys2Proof.Machine

/-- R37, R62: an event of either unit writes registers of the units alone and emits at most one event. -/
theorem event_of_unit {p : Params} {e : Event} (he : e.isRx = true ∨ e.isTx = true) {s t : State}
    (h : event p e s = .next t) : ∃ rx tx os, os.length ≤ 1 ∧ t = s.withUnits rx tx (s.out ++ os) := by
  rcases he with hrx | htx
  · obtain ⟨rx, os, hlen, -, hact⟩ := rxAction_event hrx p s s
    exact ⟨rx, s, os, hlen, Host.Outcome.next.inj (h.symm.trans (hact s s.out))⟩
  · rcases txAction_event htx p s s with ⟨r, hact⟩ | ⟨tx, os, hlen, -, hact⟩
    · cases h.symm.trans (hact s s.out)
    · exact ⟨s, tx, os, hlen, Host.Outcome.next.inj (h.symm.trans (hact s s.out))⟩

/-- R52: `MODE` is written by `RST` and `SETMODE` alone. -/
theorem event_mode {p : Params} {e : Event} (hrst : e ≠ .rst) (hset : ∀ m, e ≠ .setmode m) {s t : State}
    (h : event p e s = .next t) : t.mode = s.mode := by
  cases e with
  | rst => exact absurd rfl hrst
  | setmode m => exact absurd rfl (hset m)
  | nop => exact Host.Outcome.next.inj h ▸ rfl
  | rxb | rxt | txs | txp =>
    obtain ⟨rx, tx, os, -, rfl⟩ := event_of_unit (by simp [Event.isRx, Event.isTx]) h
    rfl

/-- R63, R94: an event emits at most one output event. -/
theorem event_out {p : Params} {e : Event} {s t : State} (h : event p e s = .next t) :
    ∃ os : List Output, os.length ≤ 1 ∧ t.out = s.out ++ os := by
  cases e with
  | rst | setmode | nop => exact ⟨[], Nat.zero_le _, Host.Outcome.next.inj h ▸ (List.append_nil _).symm⟩
  | rxb | rxt | txs | txp =>
    obtain ⟨rx, tx, os, hlen, rfl⟩ := event_of_unit (by simp [Event.isRx, Event.isTx]) h
    exact ⟨os, hlen, rfl⟩

/-- What each of the events `es` keeps, their sequence keeps. -/
theorem events_keep_of_mem {p : Params} {P : State → Prop} {es : List Event}
    (hP : ∀ e ∈ es, ∀ s t, P s → event p e s = .next t → P t) {s t : State} (hs : P s)
    (h : events p es s = .next t) : P t := by
  induction es generalizing s with
  | nil => exact Host.Outcome.next.inj h ▸ hs
  | cons e es ih =>
    obtain ⟨s', he, hes⟩ := andThen_eq_next.mp h
    exact ih (fun e' he' => hP e' (List.mem_cons_of_mem _ he')) (hP e List.mem_cons_self s s' hs he) hes

/-- R63: a sequence emits at most as many output events as it has events. -/
theorem events_out {p : Params} {es : List Event} {s t : State} (h : events p es s = .next t) :
    ∃ os : List Output, os.length ≤ es.length ∧ t.out = s.out ++ os := by
  induction es generalizing s with
  | nil => exact ⟨[], Nat.zero_le _, Host.Outcome.next.inj h ▸ (List.append_nil _).symm⟩
  | cons e es ih =>
    obtain ⟨s', he, hes⟩ := andThen_eq_next.mp h
    obtain ⟨os, hlen, hos⟩ := event_out he
    obtain ⟨os', hlen', hos'⟩ := ih hes
    exact ⟨os ++ os', by simp only [List.length_append, List.length_cons]; omega, by rw [hos', hos, List.append_assoc]⟩

/-! ## Words -/

/-- R88, R89: the events of a step input word, in any state. -/
theorem decodeWord_events (p : Params) (q : Selector) (w : StepWord) (r : ResultValue) :
    (decode p q (.word w r)).events p =
      if wordStrobes w = 0#6 then [.nop] else wordEvents (wordStrobes w) (wordData w) r := by
  simp only [decode, decodeWord]
  generalize wordStrobes w = st
  obtain rfl | hrst := eq_or_ne st strobeRst
  · rfl
  obtain rfl | hcfg := eq_or_ne st strobeCfgWe
  · rfl
  obtain rfl | hrx := eq_or_ne st strobeRxValid
  · exact rxInstr_events p q _
  obtain rfl | hrxt := eq_or_ne st strobeRxTimeout
  · rfl
  obtain rfl | htxs := eq_or_ne st strobeTxStart
  · cases q.tbusy <;> rfl
  obtain rfl | htxp := eq_or_ne st strobeTxPop
  · cases q.tbusy <;> rfl
  obtain rfl | hnop := eq_or_ne st 0#6
  · rfl
  · simp only [hrst, hcfg, hrx, hrxt, htxs, htxp, hnop, if_false, Instr.events]

/-- R63: a word is run as its events. -/
theorem exec_word {s : State} (w : StepWord) (r : ResultValue) :
    exec (decode Config.params s.selector (.word w r)) s = events Config.params
      (if wordStrobes w = 0#6 then [.nop] else wordEvents (wordStrobes w) (wordData w) r) s := by
  rw [exec_eq_execWith, execWith_eq_events (decode_selectedBy _ _ _), decodeWord_events]

/-- R88: one event for each strobe. -/
theorem wordEvents_length (st : BitVec 6) (d : Byte) (r : ResultValue) :
    (wordEvents st d r).length = strobeCount st := by
  simp only [wordEvents, List.length_append, apply_ite List.length, List.length_singleton, List.length_nil]
  revert st
  decide

/-- R88: `RST` comes with the strobe `rst`, `SETMODE` with `cfg_we`. -/
theorem not_rst_setmode_of_mem_wordEvents {st : BitVec 6} {d : Byte} {r : ResultValue} (hrst : st.getLsbD 5 = false)
    (hcfg : st.getLsbD 2 = false) {e : Event} (he : e ∈ wordEvents st d r) : e ≠ .rst ∧ ∀ m, e ≠ .setmode m := by
  simp only [wordEvents, hrst, hcfg, List.mem_append] at he
  constructor
  · rintro rfl
    simp at he
  · rintro m rfl
    simp at he

/-- Settles O32: without the strobes `rst` and `cfg_we` no event of the word is a `RST` or a `SETMODE`. -/
theorem onlySetmodeAndRstSwitchTheMode : Obligations.OnlySetmodeAndRstSwitchTheMode := by
  intro s t w r hrst hcfg hexec
  have hrst' : (wordStrobes w).getLsbD 5 = false := by simpa [wordStrobes] using hrst
  have hcfg' : (wordStrobes w).getLsbD 2 = false := by simpa [wordStrobes] using hcfg
  rw [exec_word] at hexec
  refine events_keep_of_mem (P := fun t => t.mode = s.mode) (fun e he u v hu hv => ?_) rfl hexec
  have ⟨hne, hnset⟩ : e ≠ .rst ∧ ∀ m, e ≠ .setmode m := by
    split at he
    · obtain rfl := List.mem_singleton.mp he
      exact ⟨nofun, fun _ => nofun⟩
    · exact not_rst_setmode_of_mem_wordEvents hrst' hcfg' he
  exact (event_mode hne hnset hv).trans hu

/-- Settles O33: such a word is one event, or none but `NOP`. -/
theorem oneStrobeEmitsAtMostOneOutput : Obligations.OneStrobeEmitsAtMostOneOutput := by
  intro s t w r hcount hexec
  rw [exec_word] at hexec
  obtain ⟨os, hlen, hout⟩ := events_out hexec
  refine ⟨os, hlen.trans ?_, hout⟩
  split
  · exact Nat.le_refl 1
  · exact (wordEvents_length _ _ _).trans_le hcount

end Sys2Proof.Machine
end

section
/-! An instruction against the words and events it stands for (R88 to R93): a run does not depend on where its items and
earlier outputs stand, so that an item's events, run in one step, are its canonical words, one step each. -/

namespace Sys2Proof.Machine

/-- `s` with the input items `q`, and with the outputs `o` before its own. -/
def State.after (q : List Input) (o : List Output) (s : State) : State := { s with input := q, out := o ++ s.out }

theorem emit_after (w : Output) (q : List Input) (o : List Output) (s : State) :
    emit w (s.after q o) = (emit w s).after q o := by
  simp only [emit, State.after, List.append_assoc]

theorem raise_after (e : DecodeErr) (q : List Input) (o : List Output) (s : State) :
    raise e (s.after q o) = (raise e s).after q o :=
  emit_after _ q o { s with rpos := 0 }

theorem rxb_after (p : Params) (b : Byte) (q : List Input) (o : List Output) (s : State) :
    rxb p b (s.after q o) = (rxb p b s).after q o := by
  show rxEffect p b (rxCase p s.selector b) (s.after q o) = (rxEffect p b (rxCase p s.selector b) s).after q o
  cases rxCase p s.selector b with
  | start | res | chk | endOk | pay => rfl
  | junk | badEnd => exact raise_after _ q o s
  | lastOk =>
    rw [rxEffect, rxEffect, lastOkEffect_eq, lastOkEffect_eq, publish_eq_emit, publish_eq_emit]
    exact emit_after _ q o { storePayload (p.L - 1) b s with rpos := 0 }
  | lastBad => exact raise_after _ q o (storePayload (p.L - 1) b s)

theorem txsEvent_after (p : Params) (res : Byte) (r : ResultValue) (q : List Input) (o : List Output) (s : State) :
    txsEvent p res r (s.after q o) = (txsEvent p res r s).after q o := by
  unfold txsEvent
  rw [apply_ite (State.after q o), txRefuse_eq, txRefuse_eq, emit_after]
  rfl

theorem rxtEffect_after (q : List Input) (o : List Output) (s : State) :
    rxtEffect (s.after q o) = (rxtEffect s).after q o := by
  unfold rxtEffect
  rw [apply_ite (State.after q o), raise_after]
  rfl

theorem txAdvance_after (p : Params) (q : List Input) (o : List Output) (s : State) :
    txAdvance p (s.after q o) = (txAdvance p s).after q o := by
  unfold txAdvance
  rw [apply_ite (State.after q o)]
  rfl

theorem txpEvent_after (p : Params) (q : List Input) (o : List Output) (s : State) :
    txpEvent p (s.after q o) = andThen (txpEvent p s) fun t => .next (t.after q o) := by
  cases hbusy : s.tbusy with
  | false => simp [txpEvent, State.after, hbusy]
  | true =>
    have hsend : ∀ u : State, u.tbusy = true → txpEvent p u = txSend p u := fun _ hu => if_pos hu
    rw [hsend s hbusy, hsend (s.after q o) hbusy, txSend, txSend,
      show frameByte p (s.after q o) (s.after q o).tpos = frameByte p s s.tpos from rfl]
    cases frameByte p s s.tpos with
    | some b => simp only [andThen_next, emit_after, txAdvance_after]
    | none => rfl

/-- R34: no event reads the outputs of the past or the items to come, and none changes them. -/
theorem event_after (p : Params) (e : Event) (q : List Input) (o : List Output) (s : State) :
    event p e (s.after q o) = andThen (event p e s) fun t => .next (t.after q o) := by
  cases e with
  | rst | setmode | nop => rfl
  | rxb b => exact congrArg _ (rxb_after p b q o s)
  | rxt => exact congrArg _ (rxtEffect_after q o s)
  | txs res r => exact congrArg _ (txsEvent_after p res r q o s)
  | txp => exact txpEvent_after p q o s

theorem events_after (p : Params) (es : List Event) (q : List Input) (o : List Output) (s : State) :
    events p es (s.after q o) = andThen (events p es s) fun t => .next (t.after q o) := by
  induction es generalizing s with
  | nil => rfl
  | cons e es ih =>
    simp only [events_cons, event_after, andThen_assoc, andThen_next, ih]

theorem events_input {p : Params} {es : List Event} {s t : State} (h : events p es s = .next t) :
    t.input = s.input := by
  have hsame := events_after p es s.input [] s
  rw [show s.after s.input [] = s from rfl, h, andThen_next] at hsame
  rw [Host.Outcome.next.inj hsame]
  rfl

/-- Events run from a port with nothing on it, the earlier outputs put before theirs afterwards. -/
theorem events_accept {es : List Event} {p : Params} {s t : State} (h : events p es s = .next t) :
    ∃ t', events p es (s.accept s.input) = .next t' ∧ t = { t' with out := s.out ++ t'.out } := by
  have hs : (s.accept s.input).after s.input s.out = s := by simp [State.after, State.accept]
  rw [← hs, events_after] at h
  obtain ⟨t', ht', ht⟩ := andThen_eq_next.mp h
  have hin : t'.input = s.input := (events_input ht').trans (State.accept_input _ _)
  exact ⟨t', ht', by rw [← Host.Outcome.next.inj ht, State.after, ← hin]⟩

/-- R88: one step on the canonical word of an event is the event. -/
theorem step_eventInput (e : Event) (q : List Input) (s : State) :
    step { s with input := eventInput e :: q } = event Config.params e (s.accept q) := by
  rw [step_eq_events rfl, decode_eventInput_events, events_singleton]
  rfl

/-- The same step with other items waiting. -/
theorem step_eventInput_after {e : Event} {q : List Input} {s t : State} (q' : List Input)
    (h : event Config.params e (s.accept q) = .next t) :
    step { s with input := eventInput e :: q' } = .next { t with input := q' } := by
  rw [step_eventInput, show s.accept q' = (s.accept q).after q' [] from rfl, event_after, h]
  rfl

theorem trace_succ {s t u : State} {k : Nat} {os : List Output} (hstep : step s = .next t)
    (htrace : trace k t = .next (u, os)) : trace (k + 1) s = .next (u, t.out ++ os) := by
  unfold trace at *
  simp only [traceWith, hstep, htrace]

/-- R63: events run in one step end where their canonical words do, one step each, and emit in that step what those
emit together. -/
theorem trace_eventInputs (es : List Event) (q : List Input) {s t : State}
    (h : events Config.params es (s.accept q) = .next t) :
    ∃ o, trace es.length { s with input := es.map eventInput ++ q } = .next ({ t with out := o }, t.out) := by
  induction es generalizing s t with
  | nil =>
    obtain rfl := Host.Outcome.next.inj h
    exact ⟨s.out, rfl⟩
  | cons e es ih =>
    obtain ⟨s', he, hes⟩ := andThen_eq_next.mp h
    have hq : s'.input = q := events_input ((events_singleton _ e _).trans he)
    obtain ⟨t', ht', rfl⟩ := events_accept hes
    obtain ⟨o, ho⟩ := ih (hq ▸ ht')
    have hrun := trace_succ (step_eventInput_after (es.map eventInput ++ q) he) ho
    exact ⟨o, hrun⟩

/-- Settles O23: an instruction is its events in one step, and its canonical words are those events in one step each. -/
theorem everyInstructionIsItsCanonicalTrace : Obligations.EveryInstructionIsItsCanonicalTrace := by
  intro i s t q hsel hexec
  rw [exec_eq_execWith, execWith_eq_events (s := s.accept q) hsel] at hexec
  rw [Instr.canonicalWords, List.length_map]
  obtain ⟨o, ho⟩ := trace_eventInputs _ q hexec
  exact ⟨_, ho, rfl⟩

end Sys2Proof.Machine
end

section
/-! Decoding (R80, R88 to R90): which row an item is, and that an encoding decodes to the instruction it was made of. -/

namespace Sys2Proof.Machine

/-- R90: a received byte is the row of its sub-case. -/
theorem decode_rxb (p : Params) (q : Selector) (b : Byte) (r : ResultValue) :
    decode p q (.word (mkWord strobeRxValid b) r) = rxInstr b (rxCase p q b) := by
  rw [decode, decodeWord, wordStrobes_mkWord, wordData_mkWord]
  rfl

theorem decode_txs (p : Params) (q : Selector) (res : Byte) (r : ResultValue) :
    decode p q (.word (mkWord strobeTxStart res) r) = if q.tbusy then .txsRefused res r else .txs res r := by
  rw [decode, decodeWord, wordStrobes_mkWord, wordData_mkWord]
  rfl

theorem decode_txp (p : Params) (q : Selector) (d : Byte) (r : ResultValue) :
    decode p q (.word (mkWord strobeTxPop d) r) = if q.tbusy then .txp else .txpIdle := by
  rw [decode, decodeWord, wordStrobes_mkWord, wordData_mkWord]
  rfl

/-- R89: a word with several strobes is none of the rows with one strobe or none. -/
theorem decode_multiStrobe (p : Params) (q : Selector) {st : BitVec 6} (d : Byte) (r : ResultValue)
    (hst : 2 ≤ strobeCount st) : decode p q (.word (mkWord st d) r) = .multiStrobe st d r := by
  have hne : ∀ x, strobeCount x < 2 → st ≠ x := fun x hx h => absurd (h ▸ hx) (Nat.not_lt.mpr hst)
  rw [decode, decodeWord, wordStrobes_mkWord, wordData_mkWord]
  simp only [hne strobeRst (by decide), hne strobeCfgWe (by decide), hne strobeRxValid (by decide),
    hne strobeRxTimeout (by decide), hne strobeTxStart (by decide), hne strobeTxPop (by decide), hne 0#6 (by decide),
    if_false]

/-- R80: byte `k` of four, the first on the wire most significant. -/
theorem headerByte_append (b0 b1 b2 b3 : Byte) :
    headerByte (b0 ++ b1 ++ b2 ++ b3) 0 = b0 ∧ headerByte (b0 ++ b1 ++ b2 ++ b3) 1 = b1 ∧
    headerByte (b0 ++ b1 ++ b2 ++ b3) 2 = b2 ∧ headerByte (b0 ++ b1 ++ b2 ++ b3) 3 = b3 := by
  have drop : ∀ {v : Nat} (x : BitVec v) (b : Byte) (k : Nat), (x ++ b).extractLsb' (k + 8) 8 = x.extractLsb' k 8 :=
    fun x b k => BitVec.extractLsb'_append_eq_of_le (Nat.le_add_left 8 k)
  exact ⟨(drop _ b3 16).trans ((drop _ b2 8).trans BitVec.extractLsb'_append_eq_left),
    (drop _ b3 8).trans ((drop _ b2 0).trans BitVec.extractLsb'_append_eq_right),
    (drop _ b3 0).trans BitVec.extractLsb'_append_eq_right, BitVec.extractLsb'_append_eq_right⟩

/-- Settles O24: the selection hypothesis names the row where several share the word. -/
theorem decodeOfEncodeIsTheInstruction : Obligations.DecodeOfEncodeIsTheInstruction := by
  intro p q i hwf hsel
  cases i with
  | rst | rxt | nop | modeBe | modeNat | rxs | rxframe | txall => rfl
  | setmode m => cases m <;> rfl
  | rxbStart | rxbJunk | rxbRes | rxbChk | rxbEnd | rxbBadend | rxbPay | rxbLastOk | rxbLastBad =>
    refine (decode_rxb p q _ .zero).trans ?_
    rw [eq_of_beq hsel]
    rfl
  | txs res r | txsRefused res r =>
    refine (decode_txs p q res r).trans ?_
    simp_all [Instr.selectedBy]
  | txp | txpIdle =>
    refine (decode_txp p q 0#8 .zero).trans ?_
    simp_all [Instr.selectedBy]
  | multiStrobe st d r => exact decode_multiStrobe p q d r (by simp_all [Instr.wf])
  | frameHeader res chk =>
    obtain ⟨h0, h1, h2, h3⟩ := headerByte_append Config.startMarker res chk Config.endMarker
    refine (if_pos ⟨h0, h3⟩).trans ?_
    exact congrArg₂ _ h1 h2

/-! ## The rows of `RXB` -/

/-- R90: the condition of each row, at the positions of a frame. -/
def RowCondition (p : Params) (q : Selector) (b : Byte) : RxCase → Prop
  | .start   => q.rpos = 0 ∧ b = Config.startMarker
  | .junk    => q.rpos = 0 ∧ b ≠ Config.startMarker
  | .res     => q.rpos = 1
  | .chk     => q.rpos = 2
  | .endOk   => q.rpos = 3 ∧ b = Config.endMarker
  | .badEnd  => q.rpos = 3 ∧ b ≠ Config.endMarker
  | .pay     => 4 ≤ q.rpos ∧ q.rpos ≤ p.L + 2
  | .lastOk  => q.rpos = p.L + 3 ∧ q.racc ^^^ b = q.rchk
  | .lastBad => q.rpos = p.L + 3 ∧ q.racc ^^^ b ≠ q.rchk

theorem rowCondition_rxCase {p : Params} {q : Selector} (hle : q.rpos ≤ p.L + 3) (b : Byte) :
    RowCondition p q b (rxCase p q b) := by
  rcases rxCase_cases p q b with
    ⟨h, hb, hc⟩ | ⟨h, hb, hc⟩ | ⟨h, hc⟩ | ⟨h, hc⟩ | ⟨h, hb, hc⟩ | ⟨h, hb, hc⟩ | ⟨h, hb, hc⟩ | ⟨_, h, hb, hc⟩ |
      ⟨_, h, hb, hc⟩ <;>
    rw [hc]
  · exact ⟨h, hb⟩
  · exact ⟨h, hb⟩
  · exact h
  · exact h
  · exact ⟨h, hb⟩
  · exact ⟨h, hb⟩
  · exact ⟨h, hb⟩
  · exact ⟨Nat.le_antisymm hle h, hb⟩
  · exact ⟨Nat.le_antisymm hle h, hb⟩

/-- R90: the rows are disjoint, a condition decides its row. -/
theorem rxCase_of_rowCondition {p : Params} (hL : 1 ≤ p.L) {q : Selector} {b : Byte} {c : RxCase}
    (h : RowCondition p q b c) : rxCase p q b = c := by
  cases c <;> simp only [RowCondition] at h <;> simp only [rxCase]
  case pay => rw [if_neg (by omega), if_neg (by omega), if_neg (by omega), if_neg (by omega), if_pos h.2]
  case lastOk | lastBad =>
    rw [if_neg (by omega), if_neg (by omega), if_neg (by omega), if_neg (by omega), if_neg (by omega)]
    simp [h.2]
  all_goals simp [h]

theorem rxInstr_inj {b : Byte} {c c' : RxCase} : rxInstr b c = rxInstr b c' ↔ c = c' := by
  cases c <;> cases c' <;> simp [rxInstr]

/-- Settles O25: at the positions of these words the state alone decides the row. -/
theorem writtenOutWordsDecode : Obligations.WrittenOutWordsDecode := ⟨rfl, rfl, rfl, rfl, rfl, rfl, rfl, rfl⟩

/-- Settles O6: every position and byte meets the condition of its own row, and a condition decides the row. -/
theorem rxbRowIsChosenByPositionAndByte : Obligations.RxbRowIsChosenByPositionAndByte := by
  rintro s b r hle i rfl
  have hrow : ∀ c, decode Config.params s.selector (.word (0x10#6 ++ b) r) = rxInstr b c ↔
      RowCondition Config.params s.selector b c := fun c => by
    have hdecode := decode_rxb Config.params s.selector b r
    rw [mkWord, strobeRxValid] at hdecode
    rw [hdecode, rxInstr_inj]
    exact ⟨fun h => h ▸ rowCondition_rxCase hle b, rxCase_of_rowCondition Config.params_L_pos⟩
  exact ⟨hrow .start, hrow .junk, hrow .res, hrow .chk, hrow .endOk, hrow .badEnd, hrow .pay, hrow .lastOk,
    hrow .lastBad⟩

/-! ## Rows in states that do not select them -/

/-- R163: no sequence of events is refused. -/
theorem events_ne_refused (p : Params) (es : List Event) (s : State) (x : Refusal) : events p es s ≠ .refused x := by
  induction es generalizing s with
  | nil => simp
  | cons e es ih =>
    rcases event_next_or_fault p e s with ⟨t, ht⟩ | ⟨_, _, hf⟩
    · rw [events_cons, ht, andThen_next]
      exact ih t
    · rw [events_cons, hf]
      exact nofun

theorem execWith_refused {p : Params} {i : Instr} {s : State} (h : i.selectedBy p s.selector = false) :
    execWith p i s = .refused .caseNotSelected := by
  cases i with
  | rst | setmode | rxt | nop | multiStrobe | frameHeader | modeBe | modeNat | rxs | rxframe | txall => cases h
  | rxbStart | rxbJunk | rxbRes | rxbChk | rxbEnd | rxbBadend | rxbPay | rxbLastOk | rxbLastBad =>
    exact whenCase_refused (beq_eq_false_iff_ne.mp h)
  | txs | txsRefused | txp | txpIdle =>
    simp_all [Instr.selectedBy, execWith, txs, txsRefused, txp, txpIdle, whenBusy]

/-- Settles O28: a selected row is its events, and events are not refused. -/
theorem rowIsRefusedExactlyWhereNotSelected : Obligations.RowIsRefusedExactlyWhereNotSelected := by
  refine ⟨fun i s => ⟨fun h => ?_, fun h => (exec_eq_execWith i s).trans (execWith_refused h)⟩, fun s h => ?_⟩
  · rw [← Bool.not_eq_true]
    intro hsel
    rw [exec_eq_execWith, execWith_eq_events hsel] at h
    exact events_ne_refused _ _ _ _ h
  · cases hin : s.input with
    | nil => cases (step_nil hin).symm.trans h
    | cons x q => exact events_ne_refused _ _ _ _ ((step_eq_events hin).symm.trans h)

end Sys2Proof.Machine
end

section
/-! A word with several strobes is its one-strobe words in the fixed order (R89). -/

namespace Sys2Proof.Machine

/-- R89, R63: words one after the other are their events one after the other. -/
theorem runInputs_words {xs : List (BitVec 6)} (hxs : ∀ x ∈ xs, x ≠ 0#6) (d : Byte) (r : ResultValue) (s : State) :
    runInputs (xs.map fun x => .word (x ++ d) r) s =
      events Config.params (xs.flatMap fun x => wordEvents x d r) s := by
  induction xs generalizing s with
  | nil => rfl
  | cons x xs ih =>
    obtain ⟨hx, hxs⟩ := List.forall_mem_cons.mp hxs
    rw [List.map_cons, runInputs, exec_word, show wordStrobes (x ++ d) = x from wordStrobes_mkWord x d, if_neg hx,
      show wordData (x ++ d) = d from wordData_mkWord x d, List.flatMap_cons, events_append]
    exact congrArg _ (funext (ih hxs))

theorem flatMap_filter {α β : Type} (c : α → Bool) (f : α → List β) (l : List α) :
    (l.filter c).flatMap f = l.flatMap fun x => if c x then f x else [] := by
  induction l with
  | nil => rfl
  | cons x l ih => cases hc : c x <;> simp [hc, ih]

/-- R89: the fixed order of the strobes. -/
theorem wordEvents_eq_flatMap (st : BitVec 6) (d : Byte) (r : ResultValue) :
    wordEvents st d r =
      ([0x20#6, 0x04#6, 0x10#6, 0x08#6, 0x02#6, 0x01#6].filter fun x => st &&& x != 0#6).flatMap
        fun x => wordEvents x d r := by
  have hrst : (st &&& 0x20#6 != 0#6) = st.getLsbD 5 := by revert st; decide
  have hset : (st &&& 0x04#6 != 0#6) = st.getLsbD 2 := by revert st; decide
  have hrxb : (st &&& 0x10#6 != 0#6) = st.getLsbD 4 := by revert st; decide
  have hrxt : (st &&& 0x08#6 != 0#6) = st.getLsbD 3 := by revert st; decide
  have htxs : (st &&& 0x02#6 != 0#6) = st.getLsbD 1 := by revert st; decide
  have htxp : (st &&& 0x01#6 != 0#6) = st.getLsbD 0 := by revert st; decide
  rw [flatMap_filter]
  simp only [List.flatMap_cons, List.flatMap_nil, hrst, hset, hrxb, hrxt, htxs, htxp]
  simp [wordEvents]

/-- R37: an RX event writes the RX registers and the outputs alone. -/
theorem event_of_rx {p : Params} {e : Event} (he : e.isRx = true) {s t : State} (h : event p e s = .next t) :
    ∃ rx o, t = s.withUnits rx s o := by
  obtain ⟨rx, os, -, -, hact⟩ := rxAction_event he p s s
  exact ⟨rx, s.out ++ os, Host.Outcome.next.inj (h.symm.trans (hact s s.out))⟩

/-- R27: no event moves `TPOS` out of the frame. -/
theorem event_tpos_le {p : Params} {e : Event} {s t : State} (hs : s.tpos ≤ p.L + 3) (h : event p e s = .next t) :
    t.tpos ≤ p.L + 3 := by
  cases e with
  | rst => exact Host.Outcome.next.inj h ▸ Nat.zero_le _
  | setmode | nop => exact Host.Outcome.next.inj h ▸ hs
  | rxb | rxt =>
    obtain ⟨rx, o, rfl⟩ := event_of_rx (by rfl) h
    exact hs
  | txs res r =>
    obtain rfl := Host.Outcome.next.inj h
    unfold txsEvent
    split
    · exact hs
    · exact Nat.zero_le _
  | txp =>
    simp only [event, txpEvent] at h
    split at h
    · rcases txSend_cases p s with ⟨b, _, _, hsend⟩ | ⟨hout, _⟩
      · obtain rfl := Host.Outcome.next.inj (hsend.symm.trans h)
        rw [txAdvance_tpos]
        split <;> simp only [emit_tpos] at * <;> omega
      · omega
    · exact Host.Outcome.next.inj h ▸ hs

/-- R163: where `TPOS` is a position of the frame every event gives a next state. -/
theorem events_complete_of_tpos {p : Params} (es : List Event) {s : State} (hs : s.tpos ≤ p.L + 3) :
    ∃ t, events p es s = .next t := by
  induction es generalizing s with
  | nil => exact ⟨s, rfl⟩
  | cons e es ih =>
    rcases event_next_or_fault p e s with ⟨s', he⟩ | ⟨_, hout, _⟩
    · obtain ⟨t, ht⟩ := ih (event_tpos_le hs he)
      exact ⟨t, andThen_eq_next.mpr ⟨s', he, ht⟩⟩
    · omega

/-- Settles O18: the word and its one-strobe words are the same events, and no event moves `TPOS` out of the frame. -/
theorem severalStrobesAreTheirWordsInOrder : Obligations.SeveralStrobesAreTheirWordsInOrder := by
  intro s st d r hst
  refine ⟨decode_multiStrobe _ _ d r hst, ?_, fun hs => ?_⟩
  · rw [runInputs_words (fun x hx => ?_), ← wordEvents_eq_flatMap]
    · rfl
    · rintro rfl
      simp at hx
  · exact events_complete_of_tpos _ hs

end Sys2Proof.Machine
end

section
/-! The lines of R93 and the header (R80) as runs: a header opens the payload, the payload bytes fill the buffer, the
last byte publishes. -/

namespace Sys2Proof.Machine

/-- Settles O4. -/
theorem modeLinesAreSetmode : Obligations.ModeLinesAreSetmode := fun _ => ⟨rfl, rfl, rfl, rfl⟩

/-- R111 to R115: a header received while hunting. -/
theorem events_header (p : Params) {s : State} (hs : s.rpos = 0) (res chk : Byte) :
    events p ([Config.startMarker, res, chk, Config.endMarker].map .rxb) s =
      .next { s with rpos := 4, rres := res, rchk := chk, racc := 0x00#8 } := by
  have hstart : rxCase p s.selector Config.startMarker = .start := by simp [rxCase, hs]
  simp only [List.map_cons, List.map_nil, events_cons, events_nil, event, andThen_next]
  rw [show rxb p Config.startMarker s = startEffect s by rw [rxb, hstart]; rfl]
  rfl

/-- Settles O19: at the position 0 the first byte opens a candidate, and at each next position the row is known. -/
theorem headerOpensThePayload : Obligations.HeaderOpensThePayload := by
  intro s res chk
  exact ⟨fun hs => events_header Config.params hs res chk, rfl⟩

/-- Settles O20: each byte writes the RX registers and the outputs alone. -/
theorem rxsTakesEveryByte : Obligations.RxsTakesEveryByte := by
  intro s b bs
  have hrx : ∀ e ∈ (b :: bs).map Event.rxb, e.isRx = true := by simp [Event.isRx]
  obtain ⟨t, ht⟩ := events_complete Config.params (fun htxp => Bool.noConfusion (hrx .txp htxp)) s
  have hwords : runInputs ((b :: bs).map fun x => .word (0x10#6 ++ x) .zero) s = .next t := by
    rw [← ht, ← runEvents_eq_events, runEvents, List.map_map]
    rfl
  refine ⟨t, ht, hwords, ?_⟩
  refine events_keep_of_mem (P := fun t => t.withUnits s t s.out = s) (fun e he u v hu hv => ?_) rfl ht
  obtain ⟨rx, o, rfl⟩ := event_of_rx (hrx e he) hv
  exact hu

/-- R116: payload bytes short of the last are stored in order from offset 0 and folded into the accumulator. -/
theorem events_payload {p : Params} {s : State} (hs : s.rpos = 4) {pl : List Byte} (hpl : pl.length < p.L) :
    ∃ m : Memory, events p (pl.map .rxb) s =
        .next { s with rpos := pl.length + 4, racc := s.racc ^^^ xorAll pl, rbuf := m } ∧
      rbufBytes { s with rbuf := m } pl.length = pl := by
  induction pl using List.reverseRecOn with
  | nil => exact ⟨s.rbuf, by simp [xorAll, ← hs], rfl⟩
  | append_singleton pl b ih =>
    rw [List.length_append, List.length_singleton] at hpl ⊢
    obtain ⟨m, hrun, hbytes⟩ := ih (by omega)
    refine ⟨m.write pl.length b, ?_, ?_⟩
    · have hpay : ∀ t : State, t.rpos = pl.length + 4 → rxb p b t = payEffect b t := fun t ht => by
        have hcond : RowCondition p t.selector b .pay := ⟨by simp [ht], by simp only [selector_rpos]; omega⟩
        rw [rxb, rxCase_of_rowCondition (by omega) hcond]
        rfl
      rw [List.map_append, events_append, hrun, andThen_next, List.map_singleton, events_singleton, event, hpay _ rfl,
        xorAll_concat, ← BitVec.xor_assoc]
      rfl
    · have hstore := rbufBytes_storePayload pl.length b { s with rbuf := m }
      rw [hbytes] at hstore
      exact hstore

/-- R117, R118: what the last byte of the image `img` emits, with the header in the registers of `s`. -/
def imageOutput (p : Params) (s : State) (img : List Byte) : Output :=
  if xorAll img = s.rchk then .frame (rxPacket s img) (deser p s.mode img) else .err (.checksum s.rchk (xorAll img))

theorem rxb_last {p : Params} {s : State} {b : Byte} {img : List Byte} (hL : 1 ≤ p.L) (hpos : s.rpos = p.L + 3)
    (hacc : s.racc ^^^ b = xorAll img) (hbytes : rbufBytes s (p.L - 1) ++ [b] = img) :
    rxb p b s = emit (imageOutput p s img)
      { s with rpos := 0, racc := xorAll img, rbuf := s.rbuf.write (p.L - 1) b } := by
  have hstore : rbufBytes (storePayload (p.L - 1) b s) p.L = img := by
    rw [← hbytes, ← rbufBytes_storePayload, Nat.sub_add_cancel hL]
  unfold imageOutput
  rw [← hacc]
  split
  · have hcond : RowCondition p s.selector b .lastOk := ⟨hpos, ‹_›⟩
    rw [rxb, rxCase_of_rowCondition hL hcond, rxEffect, lastOkEffect_eq, publish, hstore]
    rfl
  · have hcond : RowCondition p s.selector b .lastBad := ⟨hpos, ‹_›⟩
    rw [rxb, rxCase_of_rowCondition hL hcond]
    rfl

/-- R116 to R118: an image received from the first payload position on fills the buffer, and is published where its
checksum is the header's. -/
theorem events_image {p : Params} (hL : 1 ≤ p.L) {s : State} (hs : s.rpos = 4) (hzero : s.racc = 0x00#8)
    {img : List Byte} (himg : img.length = p.L) :
    ∃ m : Memory, events p (img.map .rxb) s =
        .next { s with rpos := 0, racc := xorAll img, rbuf := m, out := s.out ++ [imageOutput p s img] } ∧
      rbufBytes { s with rbuf := m } p.L = img := by
  obtain ⟨pl, b, rfl⟩ : ∃ pl b, img = pl ++ [b] :=
    ⟨_, _, (List.dropLast_append_getLast (List.ne_nil_of_length_pos (by omega))).symm⟩
  have hlen : p.L = pl.length + 1 := by simpa using himg.symm
  obtain ⟨m, hrun, hbytes⟩ := events_payload hs (p := p) (pl := pl) (by omega)
  have hlast := rxb_last (b := b) (img := pl ++ [b]) hL
    (s := { s with rpos := pl.length + 4, racc := s.racc ^^^ xorAll pl, rbuf := m })
    (by rw [hlen]) (by rw [hzero, BitVec.zero_xor, xorAll_concat])
    (by rw [hlen]; exact congrArg (· ++ [b]) hbytes)
  refine ⟨m.write (p.L - 1) b, ?_, ?_⟩
  · rw [List.map_append, events_append, hrun, andThen_next, List.map_singleton, events_singleton]
    exact congrArg _ hlast
  · have hstore := rbufBytes_storePayload pl.length b { s with rbuf := m }
    rw [hbytes] at hstore
    rw [hlen]
    exact hstore

/-- R80, R117: a frame received while hunting is published. -/
theorem events_frame {p : Params} (hL : 1 ≤ p.L) {s : State} (hs : s.rpos = 0) (res : Byte) {img : List Byte}
    (himg : img.length = p.L) :
    ∃ t, events p ((frameBytes res img).map .rxb) s = .next t ∧
      t.out = s.out ++ [.frame ⟨Config.startMarker, res, xorAll img, Config.endMarker, img⟩ (deser p s.mode img)] ∧
      t.rpos = 0 ∧ t.rres = res ∧ t.rchk = xorAll img ∧ t.racc = xorAll img ∧ rbufBytes t p.L = img ∧
      { t with rres := s.rres, rchk := s.rchk, racc := s.racc, rbuf := s.rbuf, out := s.out } = s := by
  obtain ⟨m, hrun, hbytes⟩ := events_image hL (himg := himg)
    (s := { s with rpos := 4, rres := res, rchk := xorAll img, racc := 0x00#8 }) rfl rfl
  have hframe : events p ((frameBytes res img).map .rxb) s =
      events p (img.map .rxb) { s with rpos := 4, rres := res, rchk := xorAll img, racc := 0x00#8 } := by
    rw [frameBytes, List.map_append, events_append, events_header p hs, andThen_next]
  refine ⟨_, hframe.trans hrun, ?_, rfl, rfl, rfl, rfl, hbytes, by simp [← hs]⟩
  rw [imageOutput, if_pos rfl]
  rfl

/-- Settles O21: the frame's header opens the payload, and its checksum is that of its image. -/
theorem rxframePublishesItsImage : Obligations.RxframePublishesItsImage := by
  intro s res img himg
  exact ⟨rfl, fun hs => events_frame Config.params_L_pos hs res himg⟩

end Sys2Proof.Machine
end

section
/-! Runs of `TXP` (R93, R143 to R145). -/

namespace Sys2Proof.Machine

/-- R145: the bytes of the frame being sent. -/
def txFrame (p : Params) (s : State) : List Byte :=
  [Config.startMarker, s.tres, s.tchk, Config.endMarker] ++ tbufBytes s p.L

@[simp] theorem txFrame_length (p : Params) (s : State) : (txFrame p s).length = p.L + 4 := by
  simp [txFrame]

theorem frameByte_eq_getElem? (p : Params) (s : State) (k : Nat) : frameByte p s k = (txFrame p s)[k]? := by
  match k with
  | 0 | 1 | 2 | 3 => rfl
  | k + 4 =>
    have hbyte : (txFrame p s)[k + 4]? = (tbufBytes s p.L)[k]? := rfl
    rw [hbyte]
    by_cases hk : k < p.L <;> simp [frameByte, tbufBytes, hk, Config.headerLen]

theorem events_txp_idle (p : Params) {s : State} (hidle : s.tbusy = false) (n : Nat) :
    events p (List.replicate n .txp) s = .next s := by
  induction n with
  | zero => rfl
  | succ n ih =>
    have htxp : event p .txp s = .next s := if_neg (hidle.trans_ne Bool.false_ne_true)
    rw [List.replicate_succ, events_cons, htxp, andThen_next, ih]

theorem event_txp_busy {p : Params} {s : State} (hbusy : s.tbusy = true) (hpos : s.tpos < (txFrame p s).length) :
    event p .txp s = .next (txAdvance p (emit (.txByte (txFrame p s)[s.tpos]) s)) := by
  have hbyte : frameByte p s s.tpos = some (txFrame p s)[s.tpos] := by
    rw [frameByte_eq_getElem?, List.getElem?_eq_getElem hpos]
  have hsend : event p .txp s = txSend p s := if_pos hbusy
  rw [hsend, txSend, hbyte]

theorem event_txp_inner {p : Params} {s : State} (hbusy : s.tbusy = true) (hpos : s.tpos < p.L + 3)
    (hlt : s.tpos < (txFrame p s).length) :
    event p .txp s = .next { s with tpos := s.tpos + 1, out := s.out ++ [.txByte (txFrame p s)[s.tpos]] } :=
  (event_txp_busy hbusy hlt).trans (congrArg _ (if_neg (Nat.ne_of_lt hpos)))

theorem event_txp_last {p : Params} {s : State} (hbusy : s.tbusy = true) (hpos : s.tpos = p.L + 3)
    (hlt : s.tpos < (txFrame p s).length) :
    event p .txp s = .next { s with tbusy := false, tpos := 0, out := s.out ++ [.txByte (txFrame p s)[s.tpos]] } :=
  (event_txp_busy hbusy hlt).trans (congrArg _ (if_pos hpos))

theorem txFrame_drop {p : Params} {s : State} {k : Nat} (hlt : k < (txFrame p s).length) :
    ((txFrame p s).drop k).map Output.txByte =
      .txByte (txFrame p s)[k] :: ((txFrame p s).drop (k + 1)).map .txByte := by
  rw [List.drop_eq_getElem_cons hlt, List.map_cons]

/-- R143: with `m` bytes after the present one, more than `m` times `TXP` hands over the rest of the frame. -/
theorem events_txp_busy {p : Params} {m n : Nat} (hmn : m < n) {s : State} (hbusy : s.tbusy = true)
    (hpos : s.tpos + m = p.L + 3) :
    events p (List.replicate n .txp) s = .next { s with
      tbusy := false, tpos := 0, out := s.out ++ ((txFrame p s).drop s.tpos).map .txByte } := by
  have hlt : s.tpos < (txFrame p s).length := by rw [txFrame_length]; omega
  obtain ⟨n, rfl⟩ := Nat.exists_eq_add_one_of_ne_zero (Nat.ne_zero_of_lt hmn)
  rw [List.replicate_succ, events_cons, txFrame_drop hlt]
  cases m with
  | zero =>
    have hrest : (txFrame p s).drop (s.tpos + 1) = [] := List.drop_eq_nil_of_le (by rw [txFrame_length]; omega)
    rw [event_txp_last hbusy hpos hlt, andThen_next, events_txp_idle p rfl, hrest]
    rfl
  | succ m =>
    have hsent : s.out ++ .txByte (txFrame p s)[s.tpos] :: ((txFrame p s).drop (s.tpos + 1)).map Output.txByte =
        s.out ++ [.txByte (txFrame p s)[s.tpos]] ++ ((txFrame p s).drop (s.tpos + 1)).map .txByte := List.append_cons ..
    rw [event_txp_inner hbusy (by omega) hlt, andThen_next, hsent]
    exact events_txp_busy (s := { s with tpos := s.tpos + 1, out := s.out ++ [.txByte (txFrame p s)[s.tpos]] })
      (Nat.lt_of_succ_lt_succ hmn) hbusy (by simp only; omega)

/-- Settles O22: `TXALL` has more `TXP` than the frame has bytes left, and the idle unit ignores the others. -/
theorem txallSendsTheRestOfTheFrame : Obligations.TxallSendsTheRestOfTheFrame := by
  intro s
  refine ⟨fun hidle => events_txp_idle _ hidle _, fun hbusy hpos => ?_⟩
  exact events_txp_busy (m := Config.params.L + 3 - s.tpos) (by simp only [Config.headerLen]; omega) hbusy (by omega)

end Sys2Proof.Machine
end

section
/-! The checksum does not see byte order (R147): the image in the other order is the same bytes, each field's
reversed. -/

namespace Sys2Proof.Machine

theorem xorAll_append (s t : List Byte) : xorAll (s ++ t) = xorAll s ^^^ xorAll t := by
  induction t using List.reverseRecOn with
  | nil => simp [xorAll]
  | append_singleton t b ih => rw [← List.append_assoc, xorAll_concat, xorAll_concat, ih, BitVec.xor_assoc]

theorem xorAll_perm {s t : List Byte} (h : s.Perm t) : xorAll s = xorAll t :=
  h.foldl_eq' (fun x _ y _ z => by rw [BitVec.xor_assoc, BitVec.xor_comm x, BitVec.xor_assoc]) _

/-- R53: the place of a byte in one order is the place of its mirror image in the other. -/
theorem bytePlace_of_ne {o o' : ByteOrder} (h : o ≠ o') {w i : Nat} (hi : i < w) :
    bytePlace o' w i = bytePlace o w (w - 1 - i) := by
  cases o <;> cases o'
  case big.little => simp only [bytePlace]; omega
  case little.big => rfl
  all_goals exact absurd rfl h

/-- The payload offset whose byte stands at `o` in the other byte order: the mirror image inside its field. -/
def mirror (p : Params) (o : Nat) : Nat :=
  match p.layout.findIdx? (fun f => decide (f.Covers o)) with
  | some k =>
    match p.layout[k]? with
    | some f => f.off + (f.w - 1 - (o - f.off))
    | none   => o
  | none   => o

theorem mirror_of_gap {p : Params} {o : Nat} (ho : o ∈ p.gapOffsets) : mirror p o = o := by
  obtain ⟨_, hgap⟩ := (p.mem_gapOffsets o).mp ho
  have hnone : p.layout.findIdx? (fun f => decide (f.Covers o)) = none :=
    List.findIdx?_eq_none_iff.mpr fun f hf => decide_eq_false (hgap f hf)
  simp only [mirror, hnone]

section
variable {p : Params} (hp : p.WF)
include hp

theorem mirror_of_covers {k i : Nat} {f : LayoutField} (hf : p.layout[k]? = some f) (hi : i < f.w) :
    mirror p (f.off + i) = f.off + (f.w - 1 - i) := by
  have hcov : f.Covers (f.off + i) := ⟨Nat.le_add_right _ _, Nat.add_lt_add_left hi _⟩
  simp only [mirror, findIdx?_covers hp hf hcov, hf, Nat.add_sub_cancel_left]

theorem mirror_lt {o : Nat} (ho : o < p.L) : mirror p o < p.L := by
  rcases covered_or_gap ho with ⟨k, i, f, hf, hi, rfl⟩ | hgap
  · rw [mirror_of_covers hp hf hi]
    exact offset_lt hp hf (by omega)
  · rwa [mirror_of_gap hgap]

theorem mirror_mirror {o : Nat} (ho : o < p.L) : mirror p (mirror p o) = o := by
  rcases covered_or_gap ho with ⟨k, i, f, hf, hi, rfl⟩ | hgap
  · rw [mirror_of_covers hp hf hi, mirror_of_covers hp hf (by omega)]
    omega
  · rw [mirror_of_gap hgap, mirror_of_gap hgap]

/-- Mirroring takes the payload offsets to one another. -/
theorem mirror_perm : ((List.range p.L).map (mirror p)).Perm (List.range p.L) := by
  have hnodup : ((List.range p.L).map (mirror p)).Nodup := by
    refine List.nodup_range.map_on fun x hx y hy hxy => ?_
    rw [← mirror_mirror hp (List.mem_range.mp hx), hxy, mirror_mirror hp (List.mem_range.mp hy)]
  have hsub : (List.range p.L).map (mirror p) ⊆ List.range p.L := by
    intro o ho
    obtain ⟨x, hx, rfl⟩ := List.mem_map.mp ho
    exact List.mem_range.mpr (mirror_lt hp (List.mem_range.mp hx))
  exact (List.subperm_of_subset hnodup hsub).perm_of_length_le (by simp)

theorem serByte_mirror {m m' : Mode} {host : ByteOrder} (hne : order p m ≠ order { p with hostOrder := host } m')
    (r : ResultValue) {o : Nat} (hin : o < p.L) :
    serByte { p with hostOrder := host } m' r o = serByte p m r (mirror p o) := by
  rcases covered_or_gap hin with ⟨k, i, f, hf, hi, rfl⟩ | hgap
  · rw [mirror_of_covers hp hf hi, serByte_of_covers (p := { p with hostOrder := host }) hp hf hi,
      serByte_of_covers hp hf (by omega), bytePlace_of_ne hne hi]
  · rw [mirror_of_gap hgap, serByte_of_gap (p := { p with hostOrder := host }) hgap, serByte_of_gap hgap]

/-- R147: the two images are the same bytes in another order. -/
theorem xorAll_ser (r : ResultValue) (m m' : Mode) (host : ByteOrder) :
    xorAll (ser p m r) = xorAll (ser { p with hostOrder := host } m' r) := by
  by_cases heq : order p m = order { p with hostOrder := host } m'
  · have hser : ser p m r = ser { p with hostOrder := host } m' r := by unfold ser serByte; rw [heq]
    rw [hser]
  · have hser : ser { p with hostOrder := host } m' r = ((List.range p.L).map (mirror p)).map (serByte p m r) := by
      rw [List.map_map]
      exact List.map_congr_left fun o hin => serByte_mirror hp heq r (List.mem_range.mp hin)
    rw [hser]
    exact (xorAll_perm ((mirror_perm hp).map _)).symm

end

end Sys2Proof.Machine
end

section
/-! The document's scenario on *REF* (R86, S6): its layout is one that R5 admits, so that the image comes back in
big-endian mode, and comes back with each field reversed in native mode. -/

namespace Sys2Proof.Machine

/-! ## The reference layout -/

/-- The fields lie inside `[a, b)` and do not overlap. -/
def FitsIn (a b : Nat) (fs : List LayoutField) : Prop :=
  (∀ f ∈ fs, a ≤ f.off ∧ f.off + f.w ≤ b) ∧ fs.Pairwise LayoutField.Apart

theorem FitsIn.append {a b c : Nat} {fs gs : List LayoutField} (hf : FitsIn a b fs) (hg : FitsIn b c gs) (hab : a ≤ b)
    (hbc : b ≤ c) : FitsIn a c (fs ++ gs) := by
  obtain ⟨hfin, hfap⟩ := hf
  obtain ⟨hgin, hgap⟩ := hg
  refine ⟨fun f h => ?_, List.pairwise_append.mpr ⟨hfap, hgap, fun f h g h' => .inl ((hfin f h).2.trans (hgin g h').1)⟩⟩
  rcases List.mem_append.mp h with h | h
  · exact ⟨(hfin f h).1, (hfin f h).2.trans hbc⟩
  · exact ⟨hab.trans (hgin f h).1, (hgin f h).2⟩

/-- R86: the zones of a packed layout follow one another. -/
theorem fitsIn_flatMap {a k : Nat} {g : Nat → List LayoutField} (hg : ∀ z, FitsIn (a + z * k) (a + z * k + k) (g z))
    (n : Nat) : FitsIn a (a + n * k) ((List.range n).flatMap g) := by
  induction n with
  | zero => exact ⟨by simp, .nil⟩
  | succ n ih =>
    rw [List.range_succ, List.flatMap_append, List.flatMap_singleton, Nat.succ_mul, ← Nat.add_assoc]
    exact ih.append (hg n) (Nat.le_add_right _ _) (Nat.le_add_right _ _)

theorem fitsIn_zone (z base : Nat) : FitsIn base (base + 12) (Reference.zone 1 z base) := by
  simp only [FitsIn, Reference.zone, LayoutField.Apart, List.range_one, List.map_cons, List.map_nil, List.cons_append,
    List.nil_append, List.forall_mem_cons, List.pairwise_cons, List.Pairwise.nil, List.not_mem_nil, false_implies,
    implies_true, and_true]
  omega

theorem reference_WF (Z : Nat) (o : ByteOrder) : (Reference.params Z 1 o).WF := by
  have hcount : FitsIn 0 1 [⟨"zone_count", 0, 1, .uint⟩] := by simp [FitsIn]
  have hzones := fitsIn_flatMap (a := 1) (k := 12) (fun z => fitsIn_zone z (1 + z * 12)) Z
  obtain ⟨hin, hap⟩ := hcount.append hzones (by omega) (by omega)
  exact ⟨Nat.le_add_right 1 _, fun f hf => (hin f hf).2, hap⟩

/-! ## Images read and written in different orders -/

theorem serField_deserField_of_ne {o o' : ByteOrder} (h : o ≠ o') {w : Nat} {s : List Byte} (hs : s.length = w) :
    serField o' w (deserField o w s) = s.reverse := by
  cases o <;> cases o'
  case big.little => rw [deserField_big hs, serField_deserField _ (by simpa using hs)]
  case little.big => rw [serField_big, serField_deserField _ hs]
  all_goals exact absurd rfl h

/-- R57: an image read in one order and written in the other has each field's bytes reversed. -/
theorem slice_ser_deser_of_ne {p : Params} (hp : p.WF) {m m' : Mode} (hne : order p m ≠ order p m') {f : LayoutField}
    (hf : f ∈ p.layout) (img : List Byte) :
    slice (ser p m' (deser p m img)) f.off f.w = (slice img f.off f.w).reverse := by
  obtain ⟨k, hk⟩ := List.mem_iff_getElem?.mp hf
  rw [slice_ser hp hk, deser_pattern hk, serField_deserField_of_ne hne (slice_length _ _ _)]

theorem slice_add (img : List Byte) (off w w' : Nat) :
    slice img off (w + w') = slice img off w ++ slice img (off + w) w' := by
  simp [slice, List.range_add, Nat.add_assoc]

theorem slice_zero {img : List Byte} {n : Nat} (h : n ≤ img.length) : slice img 0 n = img.take n := by
  apply List.ext_getElem?'
  intro i hi
  have hi : i < n := by simpa [h] using hi
  rw [slice_getElem? hi (by omega), List.getElem?_take_of_lt hi, Nat.zero_add]

/-! ## The scenario -/

/-- R86: the first 13 payload bytes of *REF* are the zone count and the five fields of zone 0. -/
theorem ref_spans {span : Nat × Nat} (h : span ∈ [(0, 1), (1, 1), (2, 2), (4, 1), (5, 4), (9, 4)]) :
    ∃ f ∈ Reference.ref.layout, (f.off, f.w) = span := by
  have hspans : (⟨"zone_count", 0, 1, .uint⟩ :: Reference.zone 1 0 1).map (fun f => (f.off, f.w)) =
    [(0, 1), (1, 1), (2, 2), (4, 1), (5, 4), (9, 4)] := rfl
  rw [← hspans] at h
  obtain ⟨f, hf, rfl⟩ := List.mem_map.mp h
  refine ⟨f, ?_, rfl⟩
  rcases List.mem_cons.mp hf with rfl | hf
  · exact List.mem_cons_self
  · exact List.mem_cons_of_mem _ (List.mem_flatMap.mpr ⟨0, List.mem_range.mpr (by decide), hf⟩)

theorem ref_WF : Reference.ref.WF := reference_WF 64 .little

/-- R52, R57: on *REF*, whose host is little-endian, the two modes write every field the other way round. -/
theorem slice_native_ref {off w : Nat} (h : (off, w) ∈ [(0, 1), (1, 1), (2, 2), (4, 1), (5, 4), (9, 4)])
    (img : List Byte) :
    slice (ser Reference.ref .native (deser Reference.ref .big img)) off w = (slice img off w).reverse := by
  obtain ⟨f, hf, hspan⟩ := ref_spans h
  obtain ⟨rfl, rfl⟩ := Prod.mk.inj hspan
  exact slice_ser_deser_of_ne ref_WF (by decide) hf img

theorem take_native_ref (img : List Byte) :
    (ser Reference.ref .native (deser Reference.ref .big img)).take 13 =
      (slice img 0 1).reverse ++ (slice img 1 1).reverse ++ (slice img 2 2).reverse ++ (slice img 4 1).reverse ++
        (slice img 5 4).reverse ++ (slice img 9 4).reverse := by
  rw [← slice_zero (by rw [ser_length]; decide), slice_add _ 0 9 4, slice_add _ 0 5 4, slice_add _ 0 4 1,
    slice_add _ 0 2 2, slice_add _ 0 1 1]
  simp (disch := decide) only [Nat.zero_add, slice_native_ref]

/-- Equal zones cancel in pairs (R122). -/
theorem xorAll_even_copies (n : Nat) (zone : List Byte) : xorAll (List.replicate (n + n) zone).flatten = 0x00#8 := by
  rw [← List.replicate_append_replicate, List.flatten_append, xorAll_append, BitVec.xor_self]

/-- Settles O50: the Result is the image's own, the equal zones cancel in the checksum, and native mode reverses each
field. -/
theorem documentScenarioHasItsChecksum : Obligations.DocumentScenarioHasItsChecksum := by
  rintro zone img r rfl himg rfl
  have hlen : img.length = Reference.ref.L := by
    rw [himg, List.length_cons, List.length_flatten, List.map_replicate, List.sum_replicate]
    rfl
  have hxor : xorAll img = 0x40#8 := by
    rw [himg, ← List.singleton_append, xorAll_append, xorAll_even_copies 32]
    rfl
  have hbig : ser Reference.ref .big (deser Reference.ref .big img) = img := ser_deser ref_WF hlen .big
  have hnative : xorAll (ser Reference.ref .native (deser Reference.ref .big img)) = 0x40#8 := by
    rw [← hxor, ← congrArg xorAll hbig]
    exact xorAll_ser ref_WF _ .native .big .little
  constructor
  · rw [encodeFrame, hbig, frameBytes, hxor]
    rfl
  · rw [encodeFrame, frameBytes, hnative, List.take_append]
    show [0xAA#8, 0x08#8, 0x40#8, 0x55#8] ++ (ser Reference.ref .native (deser Reference.ref .big img)).take 13 = _
    rw [take_native_ref, himg]
    rfl

end Sys2Proof.Machine
end

section
/-! The rows of `RXB` (R111 to R119) and `RXT` (R120): in a state that meets its row's condition a received byte is that
row, and the row does its effect. -/

namespace Sys2Proof.Machine

/-- R90: where the condition of a row is met, its word decodes to it and it does its effect. -/
theorem row_of_rowCondition {p : Params} (hL : 1 ≤ p.L) {s : State} {b : Byte} {c : RxCase}
    (h : RowCondition p s.selector b c) (r : ResultValue) :
    decode p s.selector (.word (0x10#6 ++ b) r) = rxInstr b c ∧
      execWith p (rxInstr b c) s = .next (rxEffect p b c s) := by
  obtain rfl := rxCase_of_rowCondition hL h
  refine ⟨decode_rxb p s.selector b r, ?_⟩
  rw [execWith_eq_events (rxInstr_selectedBy p s.selector b), rxInstr_events, events_singleton]
  rfl

/-- R90: the same for the parameters that `exec` runs. -/
theorem exec_row_of_rowCondition {s : State} {b : Byte} {c : RxCase}
    (h : RowCondition Config.params s.selector b c) (r : ResultValue) :
    decode Config.params s.selector (.word (0x10#6 ++ b) r) = rxInstr b c ∧
      exec (rxInstr b c) s = .next (rxEffect Config.params b c s) := by
  rw [exec_eq_execWith]
  exact row_of_rowCondition Config.params_L_pos h r

/-- Settles O7: each position is the condition of its row; the two markers are the words of their bytes. -/
theorem headerBytesAreTaken : Obligations.HeaderBytesAreTaken := by
  intro s b r
  refine ⟨fun hpos => ?_, fun hpos => ?_, fun hpos => ?_, fun hpos => ?_⟩
  · exact exec_row_of_rowCondition (b := Config.startMarker) (c := .start) ⟨hpos, rfl⟩ r
  · exact exec_row_of_rowCondition (c := .res) hpos r
  · exact exec_row_of_rowCondition (c := .chk) hpos r
  · exact exec_row_of_rowCondition (b := Config.endMarker) (c := .endOk) ⟨hpos, rfl⟩ r

/-- R112, R179: an error taken while hunting leaves every register as it is. -/
theorem raise_of_hunting {s : State} (hs : s.rpos = 0) (e : DecodeErr) :
    raise e s = { s with out := s.out ++ [.err e] } := by
  cases s
  cases hs
  rfl

/-- Settles O8. -/
theorem wrongMarkersRaiseFramingError : Obligations.WrongMarkersRaiseFramingError := by
  intro s b r
  refine ⟨fun hpos hb => ?_, fun hpos hb => ?_⟩
  · rw [← raise_of_hunting hpos]
    exact exec_row_of_rowCondition (c := .junk) ⟨hpos, hb⟩ r
  · exact exec_row_of_rowCondition (c := .badEnd) ⟨hpos, hb⟩ r

/-- R116: what the effect of a payload byte is. -/
theorem payloadTaken_payEffect (s : State) (b : Byte) : PayloadTaken s b (payEffect b s) where
  rpos := rfl
  racc := rfl
  stored := Memory.read_write_same _ _ _
  others := fun a ha => Memory.read_write_other _ _ a b ha
  frame := rfl

/-- Settles O9: with `4 <= RPOS <= L + 2` there are at least two payload bytes, whatever the parameters. -/
theorem payloadByteIsStoredAndFolded : Obligations.PayloadByteIsStoredAndFolded := by
  intro s b r h4
  refine ⟨fun p hle => ?_, fun hle => ?_⟩
  · obtain ⟨hdecode, hexec⟩ := row_of_rowCondition (c := .pay) (show 1 ≤ p.L by omega) ⟨h4, hle⟩ r
    exact ⟨hdecode, _, hexec, payloadTaken_payEffect s b⟩
  · obtain ⟨_, hexec⟩ := exec_row_of_rowCondition (c := .pay) ⟨h4, hle⟩ r
    exact ⟨_, hexec, payloadTaken_payEffect s b⟩

/-- R117, R118: the byte stored at an offset is read there. -/
theorem rbufByte_storePayload_same (a : Nat) (b : Byte) (s : State) : rbufByte (storePayload a b s) a = b := by
  rw [rbufByte_storePayload, if_pos rfl]

/-- R117, R118: the last byte completes the payload. -/
theorem rbufBytes_last_stored {p : Params} (hL : 1 ≤ p.L) (b : Byte) (s : State) :
    rbufBytes (storePayload (p.L - 1) b s) p.L = rbufBytes s (p.L - 1) ++ [b] := by
  rw [← rbufBytes_storePayload, Nat.sub_add_cancel hL]

/-- Settles O10: the state that holds the last byte holds the whole payload, and it is published from there. -/
theorem lastGoodBytePublishesTheFrame : Obligations.LastGoodBytePublishesTheFrame := by
  rintro s b hpos hchk payload rfl
  obtain ⟨_, hexec⟩ := exec_row_of_rowCondition (b := b) (c := .lastOk) ⟨hpos, hchk⟩ .zero
  refine ⟨_, hexec, rfl, rfl, rbufByte_storePayload_same _ b s, ?_,
    fun a ha => Memory.read_write_other _ _ a b ha, rfl⟩
  rw [← rbufBytes_last_stored Config.params_L_pos]
  rfl

/-- Settles O11. -/
theorem lastBadByteDiscardsTheFrame : Obligations.LastBadByteDiscardsTheFrame := by
  intro s b hpos hchk
  obtain ⟨_, hexec⟩ := exec_row_of_rowCondition (b := b) (c := .lastBad) ⟨hpos, hchk⟩ .zero
  exact ⟨_, hexec, rfl, rfl, rbufByte_storePayload_same _ b s, rfl,
    fun a ha => Memory.read_write_other _ _ a b ha, rfl⟩

theorem decode_rxt (p : Params) (q : Selector) (d : Byte) (r : ResultValue) :
    decode p q (.word (mkWord strobeRxTimeout d) r) = .rxt := by
  rw [decode, decodeWord, wordStrobes_mkWord]
  rfl

theorem exec_rxt (s : State) : exec .rxt s = .next (rxtEffect s) := rfl

/-- Settles O12. -/
theorem timeoutDropsTheCandidate : Obligations.TimeoutDropsTheCandidate := by
  intro s
  refine ⟨fun d r => decode_rxt _ _ d r, fun hpos => ?_, fun hpos => ?_⟩
  · rw [exec_rxt, rxtEffect, if_pos hpos]
  · rw [exec_rxt, rxtEffect, if_neg hpos]
    rfl

/-- R112: while hunting, each byte that is no start marker is one error and nothing else. -/
theorem events_junk (p : Params) (bs : List Byte) {s : State} (hs : s.rpos = 0)
    (hbs : ∀ x ∈ bs, x ≠ Config.startMarker) :
    events p (bs.map .rxb) s = .next { s with out := s.out ++ bs.map fun x => .err (.framing 0 x) } := by
  induction bs generalizing s with
  | nil => simp
  | cons b bs ih =>
    obtain ⟨hb, hbs⟩ := List.forall_mem_cons.mp hbs
    have hjunk : rxCase p s.selector b = .junk := by simp [rxCase, hs, hb]
    have hone : event p (.rxb b) s = .next { s with out := s.out ++ [.err (.framing 0 b)] } := by
      rw [event, rxb, hjunk, ← raise_of_hunting hs]
      rfl
    have hrest := ih (s := { s with out := s.out ++ [.err (.framing 0 b)] }) hs hbs
    rw [List.map_cons, events_cons, hone, andThen_next, hrest, List.append_assoc]
    rfl

/-- Settles O13. -/
theorem everyJunkByteIsReportedOnce : Obligations.EveryJunkByteIsReportedOnce := by
  intro s b bs hpos hbytes
  exact events_junk Config.params (b :: bs) hpos hbytes

end Sys2Proof.Machine
end

section
/-! `xor_all` (R121) and what it sees of errors (R122): each bit of it is the parity of a column of bits. -/

namespace Sys2Proof.Machine

/-- R121: bit `k` of `xor_all` is the parity of bit `k` over the bytes. -/
theorem xorAll_getLsbD (bs : List Byte) (k : Nat) :
    (xorAll bs).getLsbD k = decide ((bs.countP fun b => b.getLsbD k) % 2 = 1) := by
  induction bs using List.reverseRecOn with
  | nil => simp [xorAll]
  | append_singleton bs b ih =>
    rw [xorAll_concat, BitVec.getLsbD_xor, ih, List.countP_append, List.countP_singleton]
    cases b.getLsbD k with
    | false => simp
    | true =>
      rw [Bool.xor_true, ← decide_not, if_pos rfl, decide_eq_decide]
      omega

/-- Settles O39. -/
theorem xorAllIsTheColumnParity : Obligations.XorAllIsTheColumnParity :=
  ⟨rfl, xorAll_append, fun _ _ h => xorAll_perm h, xorAll_getLsbD⟩

theorem xorAll_cons (b : Byte) (bs : List Byte) : xorAll (b :: bs) = b ^^^ xorAll bs := by
  rw [← List.singleton_append, xorAll_append]
  simp [xorAll]

/-- R122: an error `d` in one byte is the same error in `xor_all`. -/
theorem xorAll_set_xor (bs : List Byte) (d : Byte) {i : Nat} (hi : i < bs.length) :
    xorAll (bs.set i (bs.getD i 0 ^^^ d)) = xorAll bs ^^^ d := by
  induction bs generalizing i with
  | nil => cases hi
  | cons b bs ih =>
    cases i with
    | zero =>
      rw [List.set_cons_zero, List.getD_cons_zero, xorAll_cons, xorAll_cons, BitVec.xor_assoc, BitVec.xor_assoc,
        BitVec.xor_comm d]
    | succ i =>
      rw [List.set_cons_succ, List.getD_cons_succ, xorAll_cons, xorAll_cons, ih (Nat.lt_of_succ_lt_succ hi),
        BitVec.xor_assoc]

theorem xor_ne_self {d : Byte} (hd : d ≠ 0x00#8) (x : Byte) : x ^^^ d ≠ x := by
  intro h
  exact hd (BitVec.xor_right_inj x |>.mp (h.trans BitVec.xor_zero.symm))

/-- Settles O45: an error in two bytes is in `xor_all` twice, and cancels. -/
theorem singleErrorsAreSeenEqualPairsAreNot : Obligations.SingleErrorsAreSeenEqualPairsAreNot := by
  intro pl i j d hi hj hij hd
  refine ⟨?_, (xor_ne_self hd _).symm, ?_⟩
  · rw [xorAll_set_xor pl d hi]
    exact xor_ne_self hd _
  · have hkept : (pl.set i (pl.getD i 0 ^^^ d)).getD j 0 = pl.getD j 0 := by
      rw [List.getD_eq_getElem?_getD, List.getElem?_set_ne hij, ← List.getD_eq_getElem?_getD]
    rw [← hkept, xorAll_set_xor _ d (by rwa [List.length_set]), xorAll_set_xor pl d hi, BitVec.xor_assoc,
      BitVec.xor_self, BitVec.xor_zero]

/-- R122: byte-wise errors add up in `xor_all`. -/
theorem xorAll_zipWith_xor {pl e : List Byte} (h : pl.length = e.length) :
    xorAll (List.zipWith (· ^^^ ·) pl e) = xorAll pl ^^^ xorAll e := by
  induction pl generalizing e with
  | nil =>
    obtain rfl := List.length_eq_zero_iff.mp h.symm
    rfl
  | cons b pl ih =>
    obtain ⟨c, e, rfl⟩ := List.exists_cons_of_length_eq_add_one h.symm
    rw [List.zipWith_cons_cons, xorAll_cons, xorAll_cons, xorAll_cons, ih (Nat.succ.inj h)]
    ac_rfl

end Sys2Proof.Machine
end

section
/-! Publication (R117): of the events only the last byte of a good frame emits a `FRAME`, so that a published frame has
passed the checks of its row. -/

namespace Sys2Proof.Machine

/-- R7: a `FRAME` is no output of the TX unit. -/
theorem event_tx_emits_no_frame {p : Params} {e : Event} (he : e.isTx = true) {s t : State}
    (h : event p e s = .next t) : ∃ os : List Output, t.out = s.out ++ os ∧ ∀ pk v, .frame pk v ∉ os := by
  rcases txAction_event he p s s with ⟨r, hact⟩ | ⟨tx, os, -, hos, hact⟩
  · cases h.symm.trans (hact s s.out)
  · obtain rfl := Host.Outcome.next.inj (h.symm.trans (hact s s.out))
    exact ⟨os, rfl, fun pk v hmem => Bool.noConfusion (hos _ hmem)⟩

/-- R117: an event publishes a frame and is the last byte of a good one, or emits no frame. -/
theorem event_publishes_or_not {p : Params} {e : Event} {s t : State} (h : event p e s = .next t) :
    (∃ b, e = .rxb b ∧ rxCase p s.selector b = .lastOk ∧ t = publish p (storePayload (p.L - 1) b s)) ∨
    ∃ os : List Output, t.out = s.out ++ os ∧ ∀ pk v, .frame pk v ∉ os := by
  cases e with
  | rst | setmode | nop => exact .inr ⟨[], Host.Outcome.next.inj h ▸ (List.append_nil _).symm, by simp⟩
  | rxb b =>
    obtain rfl := Host.Outcome.next.inj h
    unfold rxb
    cases hc : rxCase p s.selector b with
    | lastOk => exact .inl ⟨b, rfl, hc, rfl⟩
    | start | res | chk | endOk | pay => exact .inr ⟨[], (List.append_nil _).symm, by simp⟩
    | junk | badEnd | lastBad => exact .inr ⟨[.err _], rfl, by simp⟩
  | rxt =>
    obtain rfl := Host.Outcome.next.inj h
    rcases rxtEffect_cases s with ⟨_, hs⟩ | ⟨_, hs⟩ <;> rw [hs]
    · exact .inr ⟨[], (List.append_nil _).symm, by simp⟩
    · exact .inr ⟨[.err _], rfl, by simp⟩
  | txs | txp => exact .inr (event_tx_emits_no_frame (by rfl) h)

/-- R88: the canonical word of an event does what the event does. -/
theorem exec_eventInput (e : Event) (s : State) :
    exec (decode Config.params s.selector (eventInput e)) s = event Config.params e s := by
  rw [exec_eq_execWith, execWith_eq_events (decode_selectedBy _ _ _), decode_eventInput_events, events_singleton]

/-- Settles O38. -/
theorem onlyALastGoodBytePublishes : Obligations.OnlyALastGoodBytePublishes := by
  intro s t e pk v hexec hout
  rw [exec_eventInput] at hexec
  rcases event_publishes_or_not hexec with ⟨b, rfl, hc, _⟩ | ⟨os, hos, hnone⟩
  · refine ⟨b, rfl, ?_⟩
    rw [eventInput, decode_rxb, hc]
    rfl
  · obtain rfl := List.append_cancel_left (hos.symm.trans hout)
    exact absurd List.mem_cons_self (hnone pk v)

/-! ## Published frames have passed the checks -/

/-- R117, R126: what is true of a published frame whose view is made under the mode `m`; of other outputs it says
nothing. -/
def PassedChecks (p : Params) (m : Mode) : Output → Prop
  | .frame pk v =>
    pk.start = 0xAA#8 ∧ pk.endMarker = 0x55#8 ∧ pk.payload.length = p.L ∧ xorAll pk.payload = pk.checksum ∧
      v = deser p m pk.payload
  | .err _ | .txByte _ | .txRefused => True

/-- R24, R116: in a state of the invariant the accumulator covers the payload received, so the row of the last good byte
is the comparison of the whole payload's checksum. -/
theorem passedChecks_publishedFrame {p : Params} (hL : 1 ≤ p.L) {s : State} (hinv : BlockInv p s) {b : Byte}
    (hc : rxCase p s.selector b = .lastOk) :
    PassedChecks p s.mode (publishedFrame p (storePayload (p.L - 1) b s)) := by
  obtain ⟨hpos, hchk⟩ : s.rpos = p.L + 3 ∧ s.racc ^^^ b = s.rchk := by
    have hrow := rowCondition_rxCase (p := p) (q := s.selector) hinv.rpos_le b
    rwa [hc] at hrow
  have hacc : s.racc = xorAll (rbufBytes s (p.L - 1)) := by
    rw [hinv.racc_eq (by omega), hpos]
    rfl
  have hsum : xorAll (rbufBytes (storePayload (p.L - 1) b s) p.L) = s.rchk := by
    rw [rbufBytes_last_stored hL, xorAll_concat, ← hacc, hchk]
  exact ⟨rfl, rfl, rbufBytes_length _ _, hsum, rfl⟩

/-- `s` is a state of the invariant, and every frame put out has passed the checks, with the view of the present
`MODE`. -/
def OutputChecked (p : Params) (s : State) : Prop := BlockInv p s ∧ ∀ w ∈ s.out, PassedChecks p s.mode w

/-- R117: every event that leaves `MODE` alone keeps the output checked. -/
theorem OutputChecked.event {p : Params} (hL : 1 ≤ p.L) {e : Event} (hrst : e ≠ .rst) (hset : ∀ m, e ≠ .setmode m)
    {s t : State} (hs : OutputChecked p s) (h : event p e s = .next t) : OutputChecked p t := by
  obtain ⟨hinv, hout⟩ := hs
  refine ⟨hinv.event hL e s t h, ?_⟩
  rw [event_mode hrst hset h]
  rcases event_publishes_or_not h with ⟨b, rfl, hc, rfl⟩ | ⟨os, hos, hnone⟩
  · exact List.forall_mem_append.mpr ⟨hout, List.forall_mem_singleton.mpr (passedChecks_publishedFrame hL hinv hc)⟩
  · rw [hos]
    refine List.forall_mem_append.mpr ⟨hout, fun w hw => ?_⟩
    cases w with
    | frame pk v => exact absurd hw (hnone pk v)
    | err | txByte | txRefused => trivial

/-- R160, R161: `RST` and `SETMODE` emit nothing. -/
theorem event_control_out {p : Params} {e : Event} (he : e = .rst ∨ ∃ m, e = .setmode m) {s t : State}
    (h : event p e s = .next t) : t.out = s.out := by
  rcases he with rfl | ⟨m, rfl⟩ <;> exact Host.Outcome.next.inj h ▸ rfl

/-- The events `es` are some `RST` and `SETMODE` and then others only. -/
def ControlFirst (es : List Event) : Prop :=
  ∃ pre post, es = pre ++ post ∧ (∀ e ∈ pre, e = .rst ∨ ∃ m, e = .setmode m) ∧
    ∀ e ∈ post, e ≠ .rst ∧ ∀ m, e ≠ .setmode m

/-- R89: the strobes `rst` and `cfg_we` come before the others. -/
theorem wordEvents_control_first (st : BitVec 6) (d : Byte) (r : ResultValue) : ControlFirst (wordEvents st d r) := by
  refine ⟨(if st.getLsbD 5 then [.rst] else []) ++ (if st.getLsbD 2 then [.setmode (Mode.ofData d)] else []), _,
    by simp only [wordEvents, List.append_assoc]; rfl, fun e he => ?_, fun e he => ?_⟩
  · rcases List.mem_append.mp he with he | he
    · exact .inl (by simpa using (List.mem_ite_nil_right.mp he).2)
    · exact .inr ⟨_, by simpa using (List.mem_ite_nil_right.mp he).2⟩
  · constructor
    · rintro rfl
      simp at he
    · rintro m rfl
      simp at he

/-- R89, R93: an item sets `MODE`, if at all, before all else it does. -/
theorem decode_events_control_first (p : Params) (q : Selector) (x : Input) :
    ControlFirst ((decode p q x).events p) := by
  cases x with
  | word w r =>
    rw [decodeWord_events]
    split
    · exact ⟨[], [.nop], rfl, by simp, by simp⟩
    · exact wordEvents_control_first _ _ _
  | header h =>
    simp only [decode, decodeHeader]
    split <;> exact ⟨[], _, rfl, by simp, by simp⟩
  | line l =>
    cases l with
    | modeBe => exact ⟨[.setmode .big], [], rfl, by simp, by simp⟩
    | modeNat => exact ⟨[.setmode .native], [], rfl, by simp, by simp⟩
    | rxs | rxframe | txall => exact ⟨[], _, rfl, by simp, by simp⟩

/-- Settles O34: a step sets `MODE` before it puts out anything, and from there on `MODE` stays and every frame put out
comes from a state of the invariant. -/
theorem everyPublishedFramePassedTheChecks : Obligations.EveryPublishedFramePassedTheChecks := by
  intro s t pk v hinv hstep hframe
  have hL := Config.params_L_pos
  obtain ⟨x, q, hin⟩ := step_takes_item hstep
  obtain ⟨pre, post, hevents, hpre, hpost⟩ := decode_events_control_first Config.params s.selector x
  rw [step_eq_events hin, hevents, events_append] at hstep
  obtain ⟨u, hu, ht⟩ := andThen_eq_next.mp hstep
  have huinv : BlockInv Config.params u :=
    events_keep (BlockInv.event hL) pre (hinv.with_ports s.mode q []) hu
  have huout : u.out = [] := events_keep_of_mem (P := fun u => u.out = [])
    (fun e he _ _ hempty hnext => (event_control_out (hpre e he) hnext).trans hempty) rfl hu
  obtain ⟨-, hout⟩ : OutputChecked Config.params t := events_keep_of_mem
    (fun e he _ _ hsofar hnext => hsofar.event hL (hpost e he).1 (hpost e he).2 hnext) ⟨huinv, by simp [huout]⟩ ht
  exact hout _ hframe

end Sys2Proof.Machine
end

section
/-! Whole candidates received while hunting (R122, R128): a header, then an image, which is published where its checksum
is the header's. -/

namespace Sys2Proof.Machine

/-- R111 to R115: bytes after a header are received from the first payload position on. -/
theorem events_header_append (p : Params) {s : State} (hs : s.rpos = 0) (res chk : Byte) (bs : List Byte) :
    events p (([Config.startMarker, res, chk, Config.endMarker] ++ bs).map .rxb) s =
      events p (bs.map .rxb) { s with rpos := 4, rres := res, rchk := chk, racc := 0x00#8 } := by
  rw [List.map_append, events_append, events_header p hs, andThen_next]

/-- R111 to R118: a candidate of good markers and `L` payload bytes, whatever its checksum byte. -/
theorem events_candidate {p : Params} (hL : 1 ≤ p.L) {s : State} (hs : s.rpos = 0) (res chk : Byte) {img : List Byte}
    (himg : img.length = p.L) :
    ∃ m : Memory, events p (([Config.startMarker, res, chk, Config.endMarker] ++ img).map .rxb) s =
      .next { s with
        rpos := 0, rres := res, rchk := chk, racc := xorAll img, rbuf := m
        out := s.out ++ [imageOutput p { s with rres := res, rchk := chk } img] } := by
  obtain ⟨m, hrun, -⟩ := events_image hL (himg := himg)
    (s := { s with rpos := 4, rres := res, rchk := chk, racc := 0x00#8 }) rfl rfl
  exact ⟨m, (events_header_append p hs res chk img).trans hrun⟩

/-- Settles O44: the byte-wise errors add up in the received checksum, so it is the header's where they add up to the
header's error. -/
theorem corruptionPassesExactlyWhenErrorsCancel : Obligations.CorruptionPassesExactlyWhenErrorsCancel := by
  rintro s res ec pl e rx hs hpl he rfl
  have hlen : (List.zipWith (· ^^^ ·) pl e).length = Config.params.L := by
    rw [List.length_zipWith, hpl, he, Nat.min_self]
  obtain ⟨m, hrun⟩ := events_candidate Config.params_L_pos hs res (xorAll pl ^^^ ec) hlen
  refine ⟨_, hrun, rfl, ?_⟩
  have hcancel : xorAll (List.zipWith (· ^^^ ·) pl e) = xorAll pl ^^^ ec ↔ xorAll e = ec := by
    rw [xorAll_zipWith_xor (hpl.trans he.symm), BitVec.xor_right_inj]
  simp only [imageOutput, hcancel]
  rfl

/-- R128: frames back to back, each received while hunting. -/
theorem events_frames {p : Params} (hL : 1 ≤ p.L) {fs : List (Byte × List Byte)} (hfs : ∀ f ∈ fs, f.2.length = p.L)
    {s : State} (hs : s.rpos = 0) :
    ∃ t, events p ((fs.flatMap fun f => frameBytes f.1 f.2).map .rxb) s = .next t ∧ t.rpos = 0 ∧
      t.out = s.out ++ fs.map fun f =>
        .frame ⟨Config.startMarker, f.1, xorAll f.2, Config.endMarker, f.2⟩ (deser p s.mode f.2) := by
  induction fs generalizing s with
  | nil => exact ⟨s, rfl, hs, (List.append_nil _).symm⟩
  | cons f fs ih =>
    obtain ⟨hf, hfs⟩ := List.forall_mem_cons.mp hfs
    obtain ⟨u, hu, huout, hupos, -, -, -, -, hsame⟩ := events_frame hL hs f.1 hf
    have hmode : u.mode = s.mode := by simpa using congrArg State.mode hsame
    obtain ⟨t, ht, htpos, htout⟩ := ih hfs hupos
    refine ⟨t, ?_, htpos, ?_⟩
    · rw [List.flatMap_cons, List.map_append, events_append, hu, andThen_next, ht]
    · rw [htout, huout, hmode, List.append_assoc]
      rfl

/-- Settles O46. -/
theorem framesBackToBackAreAllPublished : Obligations.FramesBackToBackAreAllPublished := by
  intro s fs hs hfs
  rw [runEvents_eq_events]
  exact events_frames Config.params_L_pos hfs hs

end Sys2Proof.Machine
end

section
/-! The buffer form of `decode` (R123) against the stream form (R124): where the buffer form finds its answer, the stream
form puts out its first event. -/

namespace Sys2Proof.Machine

/-! ## The buffer form, by how far the bytes go -/

section
variable (p : Params) (m : Mode)

theorem decodeBuf_nil : decodeBuf p m [] = .truncatedError := by
  simp [decodeBuf, Config.headerLen]

theorem decodeBuf_junk {b : Byte} (hb : b ≠ Config.startMarker) (bs : List Byte) :
    decodeBuf p m (b :: bs) = .framingError := by
  simp [decodeBuf, hb]

theorem decodeBuf_partial_header {bs : List Byte} (hbs : bs.length < 3) :
    decodeBuf p m (Config.startMarker :: bs) = .truncatedError := by
  simp [decodeBuf, Config.headerLen, hbs]

theorem decodeBuf_badEnd (res chk : Byte) {e : Byte} (he : e ≠ Config.endMarker) (bs : List Byte) :
    decodeBuf p m (Config.startMarker :: res :: chk :: e :: bs) = .framingError := by
  simp [decodeBuf, Config.headerLen, he]

theorem decodeBuf_partial_payload (res chk : Byte) {pl : List Byte} (hpl : pl.length < p.L) :
    decodeBuf p m ([Config.startMarker, res, chk, Config.endMarker] ++ pl) = .truncatedError := by
  simp [decodeBuf, Config.headerLen, hpl]

/-- R123: the bytes after the payload are not looked at. -/
theorem slice_payload (res chk : Byte) {img : List Byte} (himg : img.length = p.L) (rest : List Byte) :
    slice ([Config.startMarker, res, chk, Config.endMarker] ++ (img ++ rest)) Config.headerLen p.L = img := by
  apply List.ext_getElem?'
  intro i hi
  have hi : i < img.length := by simpa [himg] using hi
  rw [slice_getElem? (himg ▸ hi) (by simp [Config.headerLen]; omega), ← List.getElem?_append_left (l₂ := rest) hi,
    Nat.add_comm]
  rfl

theorem decodeBuf_candidate (res chk : Byte) {img : List Byte} (himg : img.length = p.L) (rest : List Byte) :
    decodeBuf p m ([Config.startMarker, res, chk, Config.endMarker] ++ (img ++ rest)) =
      if xorAll img ≠ chk then .checksumError else .ok res (deser p m img) := by
  rw [decodeBuf, slice_payload p res chk himg rest]
  simp [Config.headerLen, himg]

end

/-! ## The stream form's first output -/

/-- R124: the output event that an answer of the buffer form names. -/
def BufferResult.Names : BufferResult → Output → Prop
  | .framingError,   w => ∃ pos x, w = .err (.framing pos x)
  | .truncatedError, w => ∃ pos, w = .err (.truncated pos)
  | .checksumError,  w => ∃ x y, w = .err (.checksum x y)
  | .ok res v,       w => ∃ pk, w = .frame pk v ∧ pk.resolution = res

/-- The events `es` complete from `s`, and the first output event they emit is `w`. -/
def FirstOutput (p : Params) (es : List Event) (s : State) (w : Output) : Prop :=
  ∃ t os, events p es s = .next t ∧ t.out = s.out ++ w :: os

/-- What comes after the bytes that put out the first event does not change which it is. -/
theorem FirstOutput.of_first_bytes {p : Params} {bs : List Byte} {s t : State} {w : Output}
    (h : events p (bs.map .rxb) s = .next t) (hw : t.out = s.out ++ [w]) (rest : List Byte) :
    FirstOutput p ((bs ++ rest).map .rxb ++ [.rxt]) s w := by
  obtain ⟨u, hu⟩ := events_complete p (es := rest.map .rxb ++ [.rxt]) (by simp) t
  obtain ⟨os, -, hos⟩ := events_out hu
  refine ⟨u, os, ?_, ?_⟩
  · rw [List.map_append, List.append_assoc, events_append, h, andThen_next, hu]
  · rw [hos, hw, List.append_assoc]
    rfl

/-- R120: a time-out after bytes that left a candidate open, and put out nothing, reports the candidate. -/
theorem FirstOutput.truncated {p : Params} {es : List Event} {s t : State} (h : events p es s = .next t)
    (hpos : t.rpos ≠ 0) (hout : t.out = s.out) : FirstOutput p (es ++ [.rxt]) s (.err (.truncated t.rpos)) := by
  refine ⟨raise (.truncated t.rpos) t, [], ?_, by rw [raise_out, hout]⟩
  rw [events_append, h, andThen_next, events_singleton, event, rxtEffect, if_neg hpos]

theorem rxb_start (p : Params) {s : State} (hs : s.rpos = 0) : rxb p Config.startMarker s = startEffect s := by
  have hstart : rxCase p s.selector Config.startMarker = .start := by simp [rxCase, hs]
  rw [rxb, hstart]
  rfl

/-- R111, R113, R114: a header cut short leaves its candidate open. -/
theorem events_partial_header (p : Params) {s : State} (hs : s.rpos = 0) {bs : List Byte} (hbs : bs.length < 3) :
    ∃ t, events p ((Config.startMarker :: bs).map .rxb) s = .next t ∧ t.rpos ≠ 0 ∧ t.out = s.out := by
  rw [List.map_cons, events_cons, event, andThen_next, rxb_start p hs]
  match bs with
  | [] | [_] | [_, _] => exact ⟨_, rfl, nofun, rfl⟩
  | _ :: _ :: _ :: bs => exact absurd hbs (by simp)

/-- R119: a wrong end marker is reported at once. -/
theorem events_badEnd (p : Params) {s : State} (hs : s.rpos = 0) (res chk : Byte) {e : Byte}
    (he : e ≠ Config.endMarker) :
    ∃ t, events p ([Config.startMarker, res, chk, e].map .rxb) s = .next t ∧
      t.out = s.out ++ [.err (.framing 3 e)] := by
  simp only [List.map_cons, List.map_nil, events_cons, events_nil, event, andThen_next, rxb_start p hs]
  have hbad : ∀ t : State, t.rpos = 3 → rxb p e t = raise (.framing 3 e) t := fun t ht => by
    rw [rxb, show rxCase p t.selector e = .badEnd by simp [rxCase, ht, he]]
    rfl
  exact ⟨_, congrArg _ (hbad _ rfl), rfl⟩

/-- R115, R116: a payload cut short leaves its candidate open. -/
theorem events_partial_payload {p : Params} {s : State} (hs : s.rpos = 0) (res chk : Byte) {pl : List Byte}
    (hpl : pl.length < p.L) :
    ∃ t, events p (([Config.startMarker, res, chk, Config.endMarker] ++ pl).map .rxb) s = .next t ∧ t.rpos ≠ 0 ∧
      t.out = s.out := by
  obtain ⟨m, hrun, -⟩ := events_payload (s := { s with rpos := 4, rres := res, rchk := chk, racc := 0x00#8 }) rfl hpl
  exact ⟨_, (events_header_append p hs res chk pl).trans hrun, nofun, rfl⟩

/-- R117, R118, R123: what a whole candidate puts out is what the buffer form answers. -/
theorem decodeBuf_candidate_names (p : Params) (s : State) (res chk : Byte) {img : List Byte} (himg : img.length = p.L)
    (rest : List Byte) :
    (decodeBuf p s.mode ([Config.startMarker, res, chk, Config.endMarker] ++ (img ++ rest))).Names
      (imageOutput p { s with rres := res, rchk := chk } img) := by
  rw [decodeBuf_candidate p s.mode res chk himg rest, imageOutput]
  by_cases hchk : xorAll img = chk
  · rw [if_neg (not_not.mpr hchk), if_pos hchk]
    exact ⟨_, rfl, rfl⟩
  · rw [if_pos hchk, if_neg hchk]
    exact ⟨_, _, rfl⟩

/-- R124: once the header is in, both forms ask whether the payload is whole, then for its checksum. -/
theorem firstOutput_of_header {p : Params} (hL : 1 ≤ p.L) {s : State} (hs : s.rpos = 0) (res chk : Byte)
    (pl : List Byte) :
    ∃ w, FirstOutput p (([Config.startMarker, res, chk, Config.endMarker] ++ pl).map .rxb ++ [.rxt]) s w ∧
      (decodeBuf p s.mode ([Config.startMarker, res, chk, Config.endMarker] ++ pl)).Names w := by
  rcases Nat.lt_or_ge pl.length p.L with hshort | hwhole
  · obtain ⟨t, ht, hpos, hout⟩ := events_partial_payload hs res chk hshort
    refine ⟨_, .truncated ht hpos hout, ?_⟩
    rw [decodeBuf_partial_payload p s.mode res chk hshort]
    exact ⟨_, rfl⟩
  · obtain ⟨img, rest, rfl, himg⟩ : ∃ img rest, pl = img ++ rest ∧ img.length = p.L :=
      ⟨_, _, (List.take_append_drop p.L pl).symm, List.length_take_of_le hwhole⟩
    obtain ⟨m, hrun⟩ := events_candidate hL hs res chk himg
    have hfirst := FirstOutput.of_first_bytes hrun rfl rest
    rw [List.append_assoc] at hfirst
    exact ⟨_, hfirst, decodeBuf_candidate_names p s res chk himg rest⟩

/-- R124: the first output of the stream form is the one that the buffer form's answer names. -/
theorem firstOutput_names_decodeBuf {p : Params} (hL : 1 ≤ p.L) {s : State} (hs : s.rpos = 0) (b : Byte)
    (bs : List Byte) :
    ∃ w, FirstOutput p ((b :: bs).map .rxb ++ [.rxt]) s w ∧ (decodeBuf p s.mode (b :: bs)).Names w := by
  by_cases hb : b = Config.startMarker
  · subst hb
    rcases Nat.lt_or_ge bs.length 3 with hshort | hlong
    · obtain ⟨t, ht, hpos, hout⟩ := events_partial_header p hs hshort
      refine ⟨_, .truncated ht hpos hout, ?_⟩
      rw [decodeBuf_partial_header p s.mode hshort]
      exact ⟨_, rfl⟩
    · obtain ⟨res, chk, e, pl, rfl⟩ : ∃ res chk e pl, bs = res :: chk :: e :: pl :=
        match bs, hlong with
        | res :: chk :: e :: pl, _ => ⟨res, chk, e, pl, rfl⟩
      by_cases he : e = Config.endMarker
      · subst he
        exact firstOutput_of_header hL hs res chk pl
      · obtain ⟨t, ht, hout⟩ := events_badEnd p hs res chk he
        have hfirst := FirstOutput.of_first_bytes ht hout pl
        refine ⟨_, hfirst, ?_⟩
        rw [decodeBuf_badEnd p s.mode res chk he pl]
        exact ⟨_, _, rfl⟩
  · have hfirst := FirstOutput.of_first_bytes (events_junk p [b] hs (by simpa using hb)) rfl bs
    refine ⟨_, hfirst, ?_⟩
    rw [decodeBuf_junk p s.mode hb bs]
    exact ⟨_, _, rfl⟩

/-- Settles O47: the bytes and the time-out are one run, whose first output the buffer form's answer names. -/
theorem streamFormAgreesWithBufferForm : Obligations.StreamFormAgreesWithBufferForm := by
  intro s hs
  refine ⟨fun b bs => ?_, by rw [exec_rxt, rxtEffect, if_pos hs], decodeBuf_nil _ _⟩
  obtain ⟨w, ⟨u, os, hrun, hout⟩, hnames⟩ := firstOutput_names_decodeBuf Config.params_L_pos hs b bs
  rw [events_append] at hrun
  obtain ⟨t, ht, hu⟩ := andThen_eq_next.mp hrun
  rw [events_singleton] at hu
  refine ⟨t, u, w :: os, ht, hu, hout, ?_⟩
  cases hbuf : decodeBuf Config.params s.mode (b :: bs) <;> rw [hbuf] at hnames
  case framingError =>
    obtain ⟨pos, x, rfl⟩ := hnames
    exact ⟨pos, x, rfl⟩
  case truncatedError =>
    obtain ⟨pos, rfl⟩ := hnames
    exact ⟨pos, rfl⟩
  case checksumError =>
    obtain ⟨x, y, rfl⟩ := hnames
    exact ⟨x, y, rfl⟩
  case ok =>
    obtain ⟨pk, rfl, hres⟩ := hnames
    exact ⟨pk, rfl, hres⟩

end Sys2Proof.Machine
end

section
/-! The TX unit's rows (R141 to R145): the words `TXS` and `TXP` in an idle and in a busy unit. -/

namespace Sys2Proof.Machine

/-- R141 to R144: a row of one event, in a state that selects it, is that event. -/
theorem exec_of_event {i : Instr} {e : Event} {s : State} (hsel : i.selectedBy Config.params s.selector = true)
    (he : i.events Config.params = [e]) : exec i s = event Config.params e s := by
  rw [exec_eq_execWith, execWith_eq_events hsel, he, events_singleton]

theorem exec_txs {s : State} (hidle : s.tbusy = false) (res : Byte) (r : ResultValue) :
    exec (.txs res r) s = .next (txLatch Config.params res r s) := by
  rw [exec_of_event (e := .txs res r) (by simp [Instr.selectedBy, hidle]) rfl, event, txsEvent,
    if_neg (hidle.trans_ne Bool.false_ne_true)]

theorem exec_txsRefused {s : State} (hbusy : s.tbusy = true) (res : Byte) (r : ResultValue) :
    exec (.txsRefused res r) s = .next (txRefuse s) := by
  rw [exec_of_event (i := .txsRefused res r) hbusy rfl, event, txsEvent, if_pos hbusy]

/-- R141: the TX buffer holds the image and nothing else. -/
theorem txLatch_tbuf_read (p : Params) (res : Byte) (r : ResultValue) (s : State) (i : Nat) :
    (txLatch p res r s).tbuf.read i = (ser p s.mode r)[i]? := by
  rw [txLatch_tbuf, Memory.read_ofBytesFrom, if_pos (Nat.zero_le i), Nat.sub_zero]

/-- Settles O14. -/
theorem acceptedTxsLatchesTheFrame : Obligations.AcceptedTxsLatchesTheFrame := by
  intro s res r hidle
  refine ⟨?_, _, exec_txs hidle res r, rfl, rfl, rfl, rfl, txLatch_tbuf_read _ res r s, rfl⟩
  exact (decode_txs _ _ res r).trans (if_neg (hidle.trans_ne Bool.false_ne_true))

/-- Settles O15. -/
theorem txsWhileBusyIsRefused : Obligations.TxsWhileBusyIsRefused := by
  intro s res r hbusy
  exact ⟨(decode_txs _ _ res r).trans (if_pos hbusy), exec_txsRefused hbusy res r⟩

/-- R145: the frame being sent, offset by offset. -/
theorem txFrame_getElem {p : Params} {s : State} {k : Nat} (hk : k < (txFrame p s).length) :
    (txFrame p s)[k] = if k = 0 then Config.startMarker else if k = 1 then s.tres else if k = 2 then s.tchk
      else if k = 3 then Config.endMarker else tbufByte s (k - 4) := by
  match k with
  | 0 | 1 | 2 | 3 => rfl
  | k + 4 => simp [txFrame, tbufBytes]

/-- Settles O16: the byte is the frame's, and `TPOS` moves on as it does inside the frame or at its last byte. -/
theorem txpHandsOverTheNextByte : Obligations.TxpHandsOverTheNextByte := by
  intro s hbusy hpos
  refine ⟨fun d r => (decode_txp _ _ d r).trans (if_pos hbusy), fun b hb => ?_⟩
  have hlt : s.tpos < (txFrame Config.params s).length := by rw [txFrame_length]; omega
  obtain rfl := hb.trans (txFrame_getElem hlt).symm
  rw [exec_of_event (i := .txp) hbusy rfl]
  by_cases hlast : s.tpos = Config.params.L + 3
  · rw [event_txp_last hbusy hlast hlt, if_pos hlast]
  · rw [event_txp_inner hbusy (by omega) hlt, if_neg hlast]

/-- Settles O17. -/
theorem txpWhileIdleDoesNothing : Obligations.TxpWhileIdleDoesNothing := by
  intro s hidle
  refine ⟨fun d r => (decode_txp _ _ d r).trans (if_neg (hidle.trans_ne Bool.false_ne_true)), ?_⟩
  rw [exec_of_event (e := .txp) (by simp [Instr.selectedBy, hidle]) rfl, ← events_singleton]
  exact events_txp_idle _ hidle 1

end Sys2Proof.Machine
end

section
/-! A Result sent as a frame: its checksum (R147), the way back through `decode` (R146), and the bytes that the TX unit
hands over (R149). -/

namespace Sys2Proof.Machine

/-- Settles O43: in the other byte order the image is the same bytes, each field's reversed. -/
theorem checksumIgnoresByteOrder : Obligations.ChecksumIgnoresByteOrder := by
  intro p hp r m m' o
  exact xorAll_ser hp r m m' o

/-- R146, buffer form. -/
theorem decodeBuf_encodeFrame {p : Params} (hp : p.WF) (m : Mode) (tag : Byte) {r : ResultValue} (hr : r.WF p) :
    decodeBuf p m (encodeFrame p m tag r) = .ok tag r := by
  have hdecode := decodeBuf_candidate p m tag (xorAll (ser p m r)) (ser_length p m r) []
  rwa [List.append_nil, if_neg (not_not.mpr rfl), deser_ser hp hr] at hdecode

/-- Settles O48: the frame is whole and carries its own checksum, and in one mode the image reads back as the Result. -/
theorem decodeOfEncodeIsTheResult : Obligations.DecodeOfEncodeIsTheResult := by
  rintro m tag r hr
  refine ⟨decodeBuf_encodeFrame Config.params_WF m tag hr, ?_⟩
  rintro s hs rfl
  obtain ⟨t, ht, hout, hpos, -⟩ := events_frame Config.params_L_pos hs tag (ser_length Config.params s.mode r)
  rw [deser_ser Config.params_WF hr] at hout
  exact ⟨t, (runEvents_eq_events _ s).trans ht, hpos, hout⟩

/-! ## The bytes still to be sent -/

/-- R143: `bs` are the bytes that the TX unit has yet to hand over, none where it is idle. -/
def BytesLeft (p : Params) (s : State) (bs : List Byte) : Prop :=
  (s.tbusy = true ∧ s.tpos ≤ p.L + 3 ∧ (txFrame p s).drop s.tpos = bs) ∨ (s.tbusy = false ∧ s.tpos = 0 ∧ bs = [])

/-- R141: an accepted `TXS` leaves the whole frame to be sent. -/
theorem bytesLeft_txLatch (p : Params) (res : Byte) (r : ResultValue) (s : State) :
    BytesLeft p (txLatch p res r s) (encodeFrame p s.mode res r) := by
  refine .inl ⟨rfl, Nat.zero_le _, ?_⟩
  rw [txLatch_tpos, List.drop_zero, txFrame, tbufBytes_of_latch]
  rfl

/-- R143: once every byte is handed over the unit is idle. -/
theorem idle_of_bytesLeft_nil {p : Params} {s : State} (h : BytesLeft p s []) : s.tbusy = false ∧ s.tpos = 0 := by
  rcases h with ⟨-, hpos, hdrop⟩ | ⟨hidle, hpos, -⟩
  · have hend := List.drop_eq_nil_iff.mp hdrop
    rw [txFrame_length] at hend
    omega
  · exact ⟨hidle, hpos⟩

/-- R143: `TXP` hands over the first byte left and leaves the others. -/
theorem event_txp_bytesLeft {p : Params} {s : State} {b : Byte} {bs : List Byte} (h : BytesLeft p s (b :: bs)) :
    ∃ t, event p .txp s = .next t ∧ t.out = s.out ++ [.txByte b] ∧ BytesLeft p t bs := by
  rcases h with ⟨hbusy, hpos, hdrop⟩ | ⟨-, -, hnil⟩
  · have hlt : s.tpos < (txFrame p s).length := by rw [txFrame_length]; omega
    rw [List.drop_eq_getElem_cons hlt] at hdrop
    obtain ⟨rfl, rfl⟩ := List.cons.inj hdrop
    by_cases hlast : s.tpos = p.L + 3
    · refine ⟨_, event_txp_last hbusy hlast hlt, rfl, .inr ⟨rfl, rfl, ?_⟩⟩
      exact List.drop_eq_nil_of_le (by rw [txFrame_length]; omega)
    · exact ⟨_, event_txp_inner hbusy (by omega) hlt, rfl, .inl ⟨hbusy, by simp only; omega, rfl⟩⟩
  · cases hnil

/-- The outputs of the RX unit hand no byte to the transmitter. -/
theorem sentBytes_eq_nil_of_rx {os : List Output} (h : ∀ w ∈ os, w.isRx = true) : sentBytes os = [] := by
  refine List.filterMap_eq_nil_iff.mpr fun w hw => ?_
  cases w with
  | frame | err => rfl
  | txByte | txRefused => cases h _ hw

/-- R37, R149: an RX event, a `NOP` or a `SETMODE` hands over no byte and leaves the frame being sent as it is. -/
theorem event_keeps_bytesLeft {p : Params} {e : Event} (he : e.isRx = true ∨ e = .nop ∨ ∃ m, e = .setmode m)
    {s : State} {bs : List Byte} (h : BytesLeft p s bs) :
    ∃ t os, event p e s = .next t ∧ t.out = s.out ++ os ∧ sentBytes os = [] ∧ BytesLeft p t bs := by
  rcases he with hrx | rfl | ⟨m, rfl⟩
  · obtain ⟨rx, os, -, hos, hact⟩ := rxAction_event hrx p s s
    exact ⟨_, os, hact s s.out, rfl, sentBytes_eq_nil_of_rx hos, h⟩
  · exact ⟨s, [], rfl, (List.append_nil _).symm, rfl, h⟩
  · exact ⟨_, [], rfl, (List.append_nil _).symm, rfl, h⟩

/-- R149: as many `TXP` as there are bytes left hand over exactly those, whatever else is between them. -/
theorem events_send_bytesLeft {p : Params} {es : List Event}
    (hes : ∀ e ∈ es, e.isRx = true ∨ e = .txp ∨ e = .nop ∨ ∃ m, e = .setmode m) {s : State} {bs : List Byte}
    (h : BytesLeft p s bs) (hcount : es.count .txp = bs.length) :
    ∃ u os, events p es s = .next u ∧ u.out = s.out ++ os ∧ sentBytes os = bs ∧ BytesLeft p u [] := by
  induction es generalizing s bs with
  | nil =>
    obtain rfl := List.eq_nil_of_length_eq_zero hcount.symm
    exact ⟨s, [], rfl, (List.append_nil _).symm, rfl, h⟩
  | cons e es ih =>
    obtain ⟨he, hrest⟩ := List.forall_mem_cons.mp hes
    by_cases htxp : e = .txp
    · subst htxp
      rw [List.count_cons_self] at hcount
      obtain ⟨b, bs, rfl⟩ := List.exists_cons_of_length_eq_add_one hcount.symm
      obtain ⟨t, ht, htout, hleft⟩ := event_txp_bytesLeft h
      obtain ⟨u, os, hu, huout, hsent, hend⟩ := ih hrest hleft (Nat.succ.inj hcount)
      refine ⟨u, .txByte b :: os, andThen_eq_next.mpr ⟨t, ht, hu⟩, ?_, congrArg (b :: ·) hsent, hend⟩
      rw [huout, htout, List.append_assoc, List.singleton_append]
    · rw [List.count_cons_of_ne htxp] at hcount
      obtain ⟨t, os, ht, htout, hsilent, hleft⟩ := event_keeps_bytesLeft (by simpa [htxp] using he) h
      obtain ⟨u, os', hu, huout, hsent, hend⟩ := ih hrest hleft hcount
      refine ⟨u, os ++ os', andThen_eq_next.mpr ⟨t, ht, hu⟩, ?_, ?_, hend⟩
      · rw [huout, htout, List.append_assoc]
      · rw [sentBytes, List.filterMap_append]
        exact congrArg₂ (· ++ ·) hsilent hsent

/-- Settles O49: the latched frame is the bytes left, and they are `L + 4`. -/
theorem transmissionIsTheEncodedFrame : Obligations.TransmissionIsTheEncodedFrame := by
  intro s t res r es hidle hexec hes hcount
  obtain rfl := Host.Outcome.next.inj ((exec_txs hidle res r).symm.trans hexec)
  have hlen : (encodeFrame Config.params s.mode res r).length = Config.params.L + 4 := by
    simp [encodeFrame, frameBytes]
  obtain ⟨u, os, hu, hout, hsent, hend⟩ :=
    events_send_bytesLeft hes (bytesLeft_txLatch Config.params res r s) (hcount.trans hlen.symm)
  exact ⟨u, os, (runEvents_eq_events es _).trans hu, hout, hsent, idle_of_bytesLeft_nil hend⟩

end Sys2Proof.Machine
end

section
/-! The control events (R160 to R162): the words that carry them and what each writes; and R163, a step is total on the
states of the invariant. -/

namespace Sys2Proof.Machine

/-- Settles O31: a step runs the events of its item, the invariant keeps `TPOS` inside the frame, and there events
always complete. -/
theorem everyInputGivesANextState : Obligations.EveryInputGivesANextState := by
  intro s x q hinv hin
  rw [step_eq_events hin]
  exact events_complete_of_tpos _ hinv.tpos_le

/-- R160: the data byte of `RST` is ignored. -/
theorem decode_rst (p : Params) (q : Selector) (d : Byte) (r : ResultValue) :
    decode p q (.word (mkWord strobeRst d) r) = .rst := by
  rw [decode, decodeWord, wordStrobes_mkWord]
  rfl

/-- R161: `SETMODE` reads the data byte through `Mode.ofData`, which is its bit 0. -/
theorem decode_setmode (p : Params) (q : Selector) (d : Byte) (r : ResultValue) :
    decode p q (.word (mkWord strobeCfgWe d) r) = .setmode (Mode.ofData d) := by
  rw [decode, decodeWord, wordStrobes_mkWord, wordData_mkWord]
  rfl

/-- R162: the data byte of a word with no strobe is ignored. -/
theorem decode_nop (p : Params) (q : Selector) (d : Byte) (r : ResultValue) :
    decode p q (.word (mkWord 0#6 d) r) = .nop := by
  rw [decode, decodeWord, wordStrobes_mkWord]
  rfl

theorem exec_rst (s : State) : exec .rst s = .next (rstEffect s) := rfl

theorem exec_setmode (m : Mode) (s : State) : exec (.setmode m) s = .next { s with mode := m } := rfl

theorem exec_nop (s : State) : exec .nop s = .next s := rfl

/-- Settles O1: the registers of R35's table are those `rstEffect` sets to a fixed value. -/
theorem rstReachesTheResetValues : Obligations.RstReachesTheResetValues := by
  intro s
  exact ⟨decode_rst _ _, rstEffect s, exec_rst s, rfl, rfl, rfl, rfl, rfl, rfl, rfl, rfl, rfl⟩

/-- Settles O2. -/
theorem setmodeWritesModeOnly : Obligations.SetmodeWritesModeOnly := by
  intro s
  exact ⟨decode_setmode _ _, fun m => exec_setmode m s⟩

/-- Settles O3. -/
theorem nopChangesNothing : Obligations.NopChangesNothing := by
  intro s
  exact ⟨decode_nop _ _, exec_nop s⟩

end Sys2Proof.Machine
end

section
/-! The state after reset (R200): the values the spec gives its registers. -/

namespace Sys2Proof.Machine

/-- Settles O5: each register that R200 gives a value is a field that `State.reset` sets to that value. -/
theorem resetStateHasTheResetValues : Obligations.ResetStateHasTheResetValues where
  rpos := rfl
  rres := rfl
  rchk := rfl
  racc := rfl
  tbusy := rfl
  tpos := rfl
  mode := rfl

end Sys2Proof.Machine
end
